-- ==== Sys2Proof/Word.lean ====
section
/-! DEFINITION. The plain words of the SR-20: bytes, plant seconds, and the numbers of filters and
context slots (00_scope.md, Conventions; R168, R183). -/

namespace Sys2Proof

/-- One byte of a host frame or a gallery frame (R160, R169). -/
abbrev Byte := BitVec 8

/-- Plant seconds and every time stamp: a count of 0 to 2^32-1 that wraps (R183). -/
abbrev Seconds := BitVec 32

/-- A filter record: filter number n (1 to 20) is the element n - 1 (R1). -/
abbrev FilterId := Fin 20

/-- A wash context slot, 0 to 3 (R73). -/
abbrev Slot := Fin 4

end Sys2Proof
end

