-- ==== Sys2Proof/Config.lean ====
section
/-! DEFINITION. What the manual leaves open for the implementation: the free values of the model.
None of these constants has a body, so that no proof can see a value of one. Each is applied to the
counter `State.free`, which the operation that reads it advances. -/

namespace Sys2Proof.Config

/-- Which of several inputs that go active on one answer is the one a trip names: R14 gives the
naming but no order among them. The value is taken modulo the number of such inputs (log 9). -/
opaque freeTripChoice : Nat → Nat

/-- Whether a condition holds while the setting it asks of has no value: R27, R28 and R41 give the conditions, and a
DISCARD to the defaults of R179 can leave a filter in SERVICE without limits or flag; R175 compares with thresholds
that have none before they are written. The second argument is 0 for turbidity, 1 for headloss, 2 for run time, 3 for
volume, 4 for the isolate-on-breakthrough flag (log 10), 5 and 6 for a crossing of the tank and the basin threshold
(log 30). -/
opaque freeConditionHolds : Nat → Nat → Bool

/-- A margin of RESOURCE-READ while its reserve has no value (R113, R180). The second argument is 0 for
the tank, 1 for the basin (log 11). -/
opaque freeMargin : Nat → Nat → BitVec 32

end Sys2Proof.Config
end

