-- ==== Sys2Proof/Syntax.lean ====
section
/-! DEFINITION. The commands of the SR-20: one constructor for each row of spec/opcode_table.json, in
the table's order. The table gives no operands; the operands below are what the rule of each row needs
(log 1, 4, 29, 36). -/

namespace Sys2Proof

/-- The two pairs of supply units (R99): the blowers of node 22 and the pumps of node 21. -/
inductive SupplyPair where
  | blowers
  | pumps
deriving DecidableEq, Repr

/-- A gallery answer as R169 lays it out: address, command code, status byte, payload, and the CRC that
follows them. -/
structure Answer where
  addr    : Byte
  code    : Byte
  status  : Byte
  payload : List Byte
  crc     : BitVec 16
deriving DecidableEq, Repr

/-- One command. A request carries the bytes of its frame's body (R160, R168); `clearTrip`, `clearDrift`
and `clearHeldCondition` carry the bytes after the target code, which the constructor itself stands
for, and `clearUnit` carries the whole body of the CLEAR frame (log 29). -/
inductive Instr where
  | powerOn (speedHigh : Bool)
  | rstnTaken
  | pinReset (speedHigh : Bool)
  | plantSecond
  | flowReportTimeout
  | movementTravelLimit (f : FilterId)
  | headerWaitLimit (c : Slot)
  | settingTravelLimit (c : Slot)
  | startConfirmExpiry (c : Slot) (p : SupplyPair)
  | rampWindowExpiry (c : Slot)
  | stepDurationExpiry (c : Slot)
  | ripenMaximumDuration (c : Slot)
  | holdPointLimit (c : Slot)
  | exitTravelExpiry (c : Slot)
  | scanPeriodExpiry
  | poll
  | filterInputAnswer (a : Answer)
  | filterTotalizerAnswer (a : Answer)
  | supplyNodeAnswer (a : Answer)
  | missingAnswer
  | attnRetriggerGapEnd
  | frameGap (byte : Byte)
  | frameLengthOver240 (length : Byte)
  | frameCrcError (kind : Byte) (body : List Byte) (crc : BitVec 16)
  | frameInBusy
  | unknownKind (kind : Byte) (body : List Byte)
  | replySent
  | ident (body : List Byte)
  | status (body : List Byte)
  | flow (body : List Byte)
  | filterRead (body : List Byte)
  | queueRead (body : List Byte)
  | contextRead (body : List Byte)
  | resourceRead (body : List Byte)
  | nodeRead (body : List Byte)
  | nodeClear (body : List Byte)
  | recordRead (body : List Byte)
  | noticeRead (body : List Byte)
  | noticeAck (body : List Byte)
  | noticeEnable (body : List Byte)
  | mode (body : List Byte)
  | wash (body : List Byte)
  | cancel (body : List Byte)
  | start (body : List Byte)
  | continueWash (body : List Byte)
  | release (body : List Byte)
  | isolate (body : List Byte)
  | free (body : List Byte)
  | clearTrip (rest : List Byte)
  | clearDrift (rest : List Byte)
  | clearHeldCondition (rest : List Byte)
  | clearUnit (body : List Byte)
  | tune (body : List Byte)
  | exit (body : List Byte)
  | profileWrite (body : List Byte)
  | profileRead (body : List Byte)
  | filterConfig (body : List Byte)
  | plantConfig (body : List Byte)
  | configRead (body : List Byte)
  | commit (body : List Byte)
  | storeWriteComplete
  | discard (body : List Byte)
  | restart (body : List Byte)
  | patternRead (body : List Byte)
  | syncByteInHunt
  | powerLoss
deriving DecidableEq, Repr

end Sys2Proof
end

