-- ==== Sys2Proof/Decode.lean ====
section
/-! DEFINITION. The command that a word spells by the bits of spec/opcode_table.json. No row of the
table gives bits (its "fields" are empty and no row has "fixed"), so no word spells a command. The
frames that carry requests and answers are bytes of the links and are decoded where they are taken
(Machine/Operands.lean, Machine/Wire.lean). -/

namespace Sys2Proof

/-- No row of the table gives bits: every word is refused. -/
def decodeTableWord (_nbits _w : Nat) : Option Instr := none

end Sys2Proof
end

