-- ==== Sys2Proof/Machine/State.lean ====
section
/-! DEFINITION. The state of the SR-20, block by block, as plain data, and its value after reset.
Each structure names the rule that gives its fields; INVENTORY.md lists them with widths and reset values. -/

namespace Sys2Proof.Machine

/-! ### Stops -/

/-- The manual gives no command that stops the part: there is no fault (NOTES.md, Stops). -/
inductive Fault : Type
deriving DecidableEq, Repr

/-- Why a step has no meaning. -/
inductive Refusal where
  /-- Raised by an arm of `exec` that has no meaning yet; no arm of this model raises it. Safe: the
  model stops where the part goes on. -/
  | notModelled (mnemonic : String)
deriving DecidableEq, Repr

/-! ### Valves and patterns (R2, R3) -/

/-- The six valves, in the order of R168. -/
inductive Valve where
  | inf | eff | wst | wwi | air | ftw
deriving DecidableEq, Repr

/-- One value for each of the six valves. -/
structure PerValve (α : Type) where
  inf : α
  eff : α
  wst : α
  wwi : α
  air : α
  ftw : α
deriving DecidableEq, Repr

/-- The same value for every valve. -/
def PerValve.all {α : Type} (x : α) : PerValve α := ⟨x, x, x, x, x, x⟩

/-- What the limit switches show of a valve (R2). -/
inductive ValveView where
  | closed | opened | travelling
deriving DecidableEq, Repr

/-- The nine named patterns (R3). -/
inductive Pattern where
  | service | isolated | drain | air | airwater | water | settle | refill | ripen
deriving DecidableEq, Repr

/-! ### Filter Table (R1) -/

/-- The filter state. -/
inductive FilterState where
  | unused | service | wash | held | unknown | fault | localCtl
deriving DecidableEq, Repr

/-- The held condition, present in HELD only. -/
inductive HeldCondition where
  | clean | dirty
deriving DecidableEq, Repr

/-- The fault cause codes (R168, R126). -/
inductive FaultCause where
  | valveTravel | valveDrift | trip | pumpStart | blowerStart | flowLow | headerWait | holdLimit
  | nodeLost | supplyLost | localTaken | hostExit | resetInterrupted
deriving DecidableEq, Repr

/-- A movement of the FT in travel (R5). `toService` tells SERVICE from ISOLATED; `answered` tells whether
a valid input answer has been taken since the travel start. -/
structure Movement where
  toService : Bool
  start     : Seconds
  answered  : Bool
deriving DecidableEq, Repr

/-- The fault field: a cause and, for VALVE-TRAVEL, the valve named. -/
structure FilterFault where
  cause : FaultCause
  valve : Option Valve
deriving DecidableEq, Repr

/-- A filter record (R1). The last four fields carry what R14, R10 and R12, R185 and R110 need from one
answer to the next (log 15, 33, 34). The filter configuration is in the working configuration. -/
structure FilterRecord where
  state          : FilterState
  held           : Option HeldCondition
  commanded      : Option Pattern
  pending        : Option Movement
  view           : PerValve ValveView
  offCounts      : PerValve Bool
  drift          : Bool
  trip           : Option (Fin 16)
  fault          : Option FilterFault
  runSeconds     : Nat
  filteredVolume : Nat
  totalClear     : Bool
  headloss       : BitVec 16
  level          : BitVec 16
  turbidity      : BitVec 16
  shortRipen     : Bool
  rewashPending  : Bool
  previousWord   : BitVec 16
  classifyDue    : Bool
  surveyAnswered : Bool
  viewStale      : Bool
deriving DecidableEq, Repr

/-- The values of R23, with the state given. -/
def FilterRecord.reset (st : FilterState) : FilterRecord where
  state := st
  held := none
  commanded := none
  pending := none
  view := PerValve.all .travelling
  offCounts := PerValve.all false
  drift := false
  trip := none
  fault := none
  runSeconds := 0
  filteredVolume := 0
  totalClear := false
  headloss := 0
  level := 0
  turbidity := 0
  shortRipen := false
  rewashPending := false
  previousWord := 0
  classifyDue := false
  surveyAnswered := false
  viewStale := false

/-- The Filter Table. -/
structure FilterTable where
  records : Vector FilterRecord 20
deriving DecidableEq, Repr

/-! ### Trigger Evaluator (R26) -/

/-- The trigger state of a condition with a confirmation time. -/
inductive ConfirmState where
  | armed
  | confirming (start : Seconds)
  | fired
deriving DecidableEq, Repr

/-- The four trigger states of one filter; run time and volume are ARMED or FIRED only. -/
structure Triggers where
  turbidity   : ConfirmState
  headloss    : ConfirmState
  runFired    : Bool
  volumeFired : Bool
deriving DecidableEq, Repr

/-- All four ARMED. -/
def Triggers.armed : Triggers := ⟨.armed, .armed, false, false⟩

/-- The Trigger Evaluator. -/
structure TriggerUnit where
  triggers : Vector Triggers 20
deriving DecidableEq, Repr

/-! ### Wash Queue (R31, R32) -/

/-- The classes, most urgent first. -/
inductive WashClass where
  | breakthrough | rewash | headloss | host | scheduled
deriving DecidableEq, Repr

/-- The causes. -/
inductive WashCause where
  | turbidity | rewash | headloss | host | runtime | volume
deriving DecidableEq, Repr

/-- A set of causes. -/
structure CauseSet where
  turbidity : Bool
  rewash    : Bool
  headloss  : Bool
  host      : Bool
  runtime   : Bool
  volume    : Bool
deriving DecidableEq, Repr

/-- A queue entry. -/
structure QueueEntry where
  filter    : FilterId
  cls       : WashClass
  causes    : CauseSet
  entryTime : Seconds
deriving DecidableEq, Repr

/-- The Wash Queue: the entries in the order of R33 and the change number of R39. -/
structure WashQueue where
  entries      : List QueueEntry
  changeNumber : BitVec 16
deriving DecidableEq, Repr

/-! ### Admission Unit (R46, R58) -/

/-- Why the walk passes an entry over (R54). -/
inductive PassOver where
  | state | trip | drift | node | profile | volume
deriving DecidableEq, Repr

/-- The last check result (R58). -/
inductive CheckResult where
  | notRun | floor | slots | spacing | supply | empty
  | noneEligible (f : FilterId) (reason : PassOver)
  | admitted (f : FilterId)
deriving DecidableEq, Repr

/-- The Admission Unit. -/
structure AdmissionUnit where
  reportedFlow  : Nat
  arrival       : Option Seconds
  fresh         : Bool
  required      : Nat
  breach        : Bool
  lastAdmission : Option Seconds
  shed          : List Slot
  lastCheck     : CheckResult
deriving DecidableEq, Repr

/-! ### Wash profiles (R67) and contexts (R73) -/

/-- The seven step kinds. -/
inductive StepKind where
  | drain | air | airwater | water | settle | refill | ripen
deriving DecidableEq, Repr

/-- A profile step. -/
structure ProfileStep where
  kind         : StepKind
  duration     : Nat
  flowTarget   : Nat
  fallbackFlow : Nat
  levelTarget  : Nat
  holdPoint    : Bool
deriving DecidableEq, Repr

/-- A step of a context's copy, with its planned volumes (R71, R89). -/
structure PlannedStep where
  step  : ProfileStep
  water : Nat
  waste : Nat
deriving DecidableEq, Repr

/-- The copy of a profile that a context runs (R89). -/
structure ProfileCopy where
  number      : Nat
  steps       : List PlannedStep
  lastWater   : Nat
  waterDemand : Nat
  wasteDemand : Nat
deriving DecidableEq, Repr

/-- A context that is not FREE is in one of these states. -/
inductive WashState where
  | active | exiting | orphan
deriving DecidableEq, Repr

/-- The step phases (R76). -/
inductive Phase where
  | acquire | setting | starting | ramping | timing | holdpoint
deriving DecidableEq, Repr

/-- The progress mark (R75). -/
inductive Progress where
  | none | airwaterBegun | washed
deriving DecidableEq, Repr

/-- The exit kinds (R127). -/
inductive ExitKind where
  | returnExit | safeExit | lateExit
deriving DecidableEq, Repr

/-- The ripen result (R114). -/
inductive RipenResult where
  | none | good | unmet
deriving DecidableEq, Repr

/-- The two units of a pair. -/
inductive UnitId where
  | a | b
deriving DecidableEq, Repr

/-- The set of units tried in a start. -/
structure UnitSet where
  a : Bool
  b : Bool
deriving DecidableEq, Repr

/-- A supply as run for one context (R93). `lossSeen` is the loss count, 0 or 1. -/
inductive SupplyState where
  | stopped
  | starting (unit : UnitId) (tried : UnitSet) (start : Seconds)
  | running (unit : UnitId) (lossSeen : Bool)
deriving DecidableEq, Repr

/-- A set of headers. -/
structure HeaderSet where
  air  : Bool
  wash : Bool
  ftw  : Bool
deriving DecidableEq, Repr

/-- The step items of a fault snapshot (R138, R139). The kind is absent for the RETURN pseudo-step. -/
structure StepItems where
  index   : Nat
  kind    : Option StepKind
  phase   : Phase
  elapsed : BitVec 32
deriving DecidableEq, Repr

/-- The valve and header items of a fault snapshot. -/
structure ValveItems where
  commanded : PerValve Bool
  seen      : PerValve ValveView
  headers   : HeaderSet
deriving DecidableEq, Repr

/-- A fault snapshot (R138). Its causes are those of the record. -/
structure Snapshot where
  step   : StepItems
  valves : ValveItems
deriving DecidableEq, Repr

/-- A context that is not FREE (R73, R93, R114, R128, R139; log 31 for the commitments, 32 for the valve named). -/
structure WashContext where
  state          : WashState
  filter         : FilterId
  profile        : ProfileCopy
  cls            : WashClass
  causes         : CauseSet
  entryTime      : Seconds
  admissionTime  : Seconds
  stepIndex      : Nat
  phase          : Phase
  stepStart      : Seconds
  phaseStart     : Seconds
  progress       : Progress
  tankRemaining  : Int
  basinRemaining : Int
  offCounts      : PerValve Bool
  reduced        : Bool
  secondAttempt  : Bool
  exitKind       : Option ExitKind
  cause          : Option FaultCause
  secondCause    : Option FaultCause
  causeValve     : Option Valve
  airSupply      : SupplyState
  washSupply     : SupplyState
  setpoint       : Nat
  windowStart    : Option Seconds
  fallbackUsed   : Bool
  lowFlowStart   : Option Seconds
  sustainStart   : Option Seconds
  ripenResult    : RipenResult
  exitStart      : Option Seconds
  answered       : Bool
  stepItems      : Option StepItems
  valveItems     : Option ValveItems
deriving DecidableEq, Repr

/-- The Step Sequencer: four contexts; a FREE context is absent (R73). -/
structure Sequencer where
  contexts : Vector (Option WashContext) 4
deriving DecidableEq, Repr

/-! ### Resource Arbiter (R92, R93, R106) -/

/-- The three headers. -/
inductive Header where
  | air | wash | ftw
deriving DecidableEq, Repr

/-- A holding: HELD, or ORPHAN. -/
structure Holding where
  slot   : Slot
  orphan : Bool
deriving DecidableEq, Repr

/-- One header's entry. -/
structure HeaderEntry where
  holdings : List Holding
  waiting  : List Slot
deriving DecidableEq, Repr

/-- The header table. -/
structure HeaderTable where
  air  : HeaderEntry
  wash : HeaderEntry
  ftw  : HeaderEntry
deriving DecidableEq, Repr

/-- The Resource Arbiter's own state; its supply readings and node images are in the node table (log 31). -/
structure ResourceUnit where
  headers    : HeaderTable
  pumpDuty   : UnitId
  blowerDuty : UnitId
  pumpFault  : UnitSet
  blowerFault : UnitSet
  tankTotal  : Int
  basinTotal : Int
deriving DecidableEq, Repr

/-- The values after reset (R92, R93, R106). -/
def ResourceUnit.reset : ResourceUnit where
  headers := ⟨⟨[], []⟩, ⟨[], []⟩, ⟨[], []⟩⟩
  pumpDuty := .a
  blowerDuty := .a
  pumpFault := ⟨false, false⟩
  blowerFault := ⟨false, false⟩
  tankTotal := 0
  basinTotal := 0

/-! ### Gallery Bus Master (R141) -/

/-- The gallery nodes: filter nodes 1 to 20, node 21 (wash water), 22 (air), 23 (waste). -/
inductive NodeId where
  | filter (f : FilterId)
  | washWater
  | airNode
  | waste
deriving DecidableEq, Repr

/-- The command codes (R142). -/
inductive PollCode where
  | readIo | writeIo | readTotal | clearTotal
deriving DecidableEq, Repr

/-- What every node table entry holds of the link to its node. -/
structure NodeLink where
  lost        : Bool
  misses      : Nat
  totalMisses : Nat
  lastCode    : Option PollCode
  status      : Option Byte
  lastAnswer  : Option Seconds
deriving DecidableEq, Repr

/-- A link after reset. -/
def NodeLink.reset : NodeLink := ⟨false, 0, 0, none, none, none⟩

/-- A filter node's input answer (R142). -/
structure FilterInput where
  word      : BitVec 16
  headloss  : BitVec 16
  level     : BitVec 16
  turbidity : BitVec 16
deriving DecidableEq, Repr

/-- The rest of a filter node's entry. -/
structure FilterNode where
  image     : PerValve Bool
  owed      : Bool
  sent      : Option (PerValve Bool)
  input     : Option FilterInput
  totalizer : Option (BitVec 32)
  changeSet : BitVec 16
deriving DecidableEq, Repr

/-- A filter node's entry after reset. -/
def FilterNode.reset : FilterNode := ⟨PerValve.all false, false, none, none, none, 0⟩

/-- Node 21's output image. -/
structure PumpImage where
  a        : Bool
  b        : Bool
  setpoint : Nat
deriving DecidableEq, Repr

/-- Node 21's readings (R107). -/
structure PumpInput where
  a    : Bool
  b    : Bool
  flow : Nat
  tank : Nat
deriving DecidableEq, Repr

/-- The rest of node 21's entry. -/
structure WashNode where
  image : PumpImage
  owed  : Bool
  sent  : Option PumpImage
  input : Option PumpInput
deriving DecidableEq, Repr

/-- Node 21's entry after reset. -/
def WashNode.reset : WashNode := ⟨⟨false, false, 0⟩, false, none, none⟩

/-- Node 22's output image. -/
structure BlowerImage where
  a : Bool
  b : Bool
deriving DecidableEq, Repr

/-- Node 22's readings. -/
structure BlowerInput where
  a        : Bool
  b        : Bool
  pressure : Nat
deriving DecidableEq, Repr

/-- The rest of node 22's entry. -/
structure AirNode where
  image : BlowerImage
  owed  : Bool
  sent  : Option BlowerImage
  input : Option BlowerInput
deriving DecidableEq, Repr

/-- Node 22's entry after reset. -/
def AirNode.reset : AirNode := ⟨⟨false, false⟩, false, none, none⟩

/-- Node 23's readings; it has no outputs. -/
structure WasteInput where
  basin    : Nat
  recovery : Bool
deriving DecidableEq, Repr

/-- The settings in use by the GBM (R141, R159). -/
structure BusSettings where
  filterCount : Nat
  scanPeriod  : Nat
  replyWindow : Nat
  missLimit   : Nat
deriving DecidableEq, Repr

/-- Where the scan stands (R143): no scan in progress, a node's poll due, or an answer awaited. -/
inductive ScanPhase where
  | idle
  | due (n : NodeId)
  | awaiting (n : NodeId) (code : PollCode)
deriving DecidableEq, Repr

/-- The Gallery Bus Master. `links` is indexed by the gallery address less 1. -/
structure BusMaster where
  links          : Vector NodeLink 23
  filterNodes    : Vector FilterNode 20
  washNode       : WashNode
  airNode        : AirNode
  wasteInput     : Option WasteInput
  settings       : BusSettings
  scanCount      : BitVec 32
  scansWithMiss  : Nat
  overruns       : Nat
  cursor         : Option FilterId
  phase          : ScanPhase
  periodExpired  : Bool
  scanMissed     : Bool
deriving DecidableEq, Repr

/-! ### Configuration Store (R179, R180) -/

/-- The plant configuration, in the order of R180; a setting that can have no value is optional. -/
structure PlantConfig where
  filterCount    : Nat
  maxOut         : Nat
  maxFilterFlow  : Option Nat
  fallbackFlow   : Option Nat
  flowTimeout    : Nat
  rotationSpacing : Nat
  tankReserve    : Option Nat
  basinReserve   : Option Nat
  ftwRate        : Nat
  scanPeriod     : Nat
  replyWindow    : Nat
  missLimit      : Nat
  travelLimit    : Nat
  headerWait     : Nat
  startConfirm   : Nat
  rampWindow     : Nat
  flowTolerance  : Nat
  holdLimit      : Nat
  ripenSustain   : Nat
  turbidityConfirm : Nat
  headlossConfirm  : Nat
  tankThreshold  : Option Nat
  basinThreshold : Option Nat
deriving DecidableEq, Repr

/-- The defaults of R180: F is 0, and a setting with no default has no value. -/
def PlantConfig.defaults : PlantConfig where
  filterCount := 0
  maxOut := 2
  maxFilterFlow := none
  fallbackFlow := none
  flowTimeout := 120
  rotationSpacing := 900
  tankReserve := none
  basinReserve := none
  ftwRate := 60
  scanPeriod := 250
  replyWindow := 4
  missLimit := 4
  travelLimit := 90
  headerWait := 1200
  startConfirm := 15
  rampWindow := 90
  flowTolerance := 10
  holdLimit := 1800
  ripenSustain := 120
  turbidityConfirm := 30
  headlossConfirm := 60
  tankThreshold := none
  basinThreshold := none

/-- The seven tunable fields of a filter configuration (R90). -/
structure FilterSettings where
  profile           : Nat
  headlossLimit     : Nat
  breakthroughLimit : Nat
  returnLimit       : Nat
  runLimit          : Nat
  volumeLimit       : Nat
  isolate           : Bool
deriving DecidableEq, Repr

/-- A filter configuration; it is written when the settings are present (R179). -/
structure FilterConfig where
  settings  : Option FilterSettings
  watchMask : BitVec 16
  tripMask  : BitVec 16
deriving DecidableEq, Repr

/-- An unwritten filter configuration: watch mask empty, trip mask the HIGH float, bit 12 (R179, R170). -/
def FilterConfig.unwritten : FilterConfig := ⟨none, 0, 0x1000⟩

/-- The default profile: three DRAIN steps of 1800 s and level target 0 (R67). -/
def defaultProfile : List ProfileStep := List.replicate 3 ⟨.drain, 1800, 0, 0, 0, false⟩

/-- The working configuration, and the image in the store (R179). -/
structure WorkingConfig where
  plant    : PlantConfig
  filters  : Vector FilterConfig 20
  profiles : Vector (List ProfileStep) 8
  enables  : BitVec 12
deriving DecidableEq, Repr

/-- The defaults of R179. -/
def WorkingConfig.defaults : WorkingConfig where
  plant := PlantConfig.defaults
  filters := Vector.replicate 20 FilterConfig.unwritten
  profiles := Vector.replicate 8 defaultProfile
  enables := 0xFFF

/-- The Configuration Store. The store is absent when its CRC is wrong (log 28). -/
structure ConfigStore where
  store   : Option WorkingConfig
  writing : Option WorkingConfig
  working : WorkingConfig
deriving DecidableEq, Repr

/-! ### Host Link Unit (R160, R162) -/

/-- The receiver. -/
inductive Receiver where
  | hunt | receiving | busy
deriving DecidableEq, Repr

/-- The Host Link Unit. -/
structure HostLink where
  receiver       : Receiver
  rxBuffer       : List Byte
  txBuffer       : List Byte
  restartPending : Bool
  fastLink       : Bool
deriving DecidableEq, Repr

/-! ### Mode Control (R178, R183, R185) -/

/-- VDD absent, RSTN held, or running. -/
inductive Power where
  | off | held | running
deriving DecidableEq, Repr

/-- The part modes. -/
inductive PartMode where
  | survey | setup | hold | auto
deriving DecidableEq, Repr

/-- Mode Control. -/
structure ModeControl where
  power          : Power
  mode           : PartMode
  seconds        : Seconds
  surveyProgress : Nat
deriving DecidableEq, Repr

/-! ### Notice Unit (R171, R174, R175) -/

/-- The twelve notice kinds, in the order of R168. -/
inductive NoticeKind where
  | washStart | washEnd | washExit | fault | trip | floor | node | drift | change | volume | flowStale | equipment
deriving DecidableEq, Repr

/-- The account of one kind; its enable is in the working configuration. -/
structure NoticeAccount where
  pending    : Bool
  count      : Nat
  lastFilter : Nat
deriving DecidableEq, Repr

/-- An account after reset. -/
def NoticeAccount.reset : NoticeAccount := ⟨false, 0, 0⟩

/-- The threshold watch of one volume (R175): the value of the previous valid answer, and whether the node
has answered in the current scan. -/
structure VolumeWatch where
  previous : Option Nat
  answered : Bool
deriving DecidableEq, Repr

/-- The Notice Unit; `accounts` is in the order of the notice kind list. -/
structure NoticeUnit where
  accounts   : Vector NoticeAccount 12
  attnDriven : Bool
  attnGap    : Bool
  tankWatch  : VolumeWatch
  basinWatch : VolumeWatch
deriving DecidableEq, Repr

/-- The values after reset (R171, R174, R175). -/
def NoticeUnit.reset : NoticeUnit where
  accounts := Vector.replicate 12 NoticeAccount.reset
  attnDriven := false
  attnGap := false
  tankWatch := ⟨none, false⟩
  basinWatch := ⟨none, false⟩

/-! ### Wash Record List (R176) -/

/-- The outcomes. -/
inductive WashOutcome where
  | complete | completeReduced | shortRipen | rewash | ineffective | returned | heldExit | faulted
  | orphaned | localTaken | resetInterrupted
deriving DecidableEq, Repr

/-- A wash record. -/
structure WashRecord where
  sequence      : BitVec 16
  filter        : FilterId
  profile       : Nat
  cls           : WashClass
  causes        : CauseSet
  admissionTime : Seconds
  endTime       : Seconds
  outcome       : WashOutcome
  reduced       : Bool
  secondAttempt : Bool
  waterPlanned  : Nat
  cause         : Option FaultCause
  secondCause   : Option FaultCause
  ripenResult   : RipenResult
  snapshot      : Option Snapshot
deriving DecidableEq, Repr

/-- The Wash Record List, newest record first. -/
structure RecordList where
  records      : List WashRecord
  nextSequence : BitVec 16
deriving DecidableEq, Repr

/-! ### The whole state -/

/-- The state: the queue of waiting commands, the twelve blocks, and the counter of free values drawn. -/
structure State where
  pending : List Instr
  mc      : ModeControl
  hlu     : HostLink
  cs      : ConfigStore
  gbm     : BusMaster
  ft      : FilterTable
  te      : TriggerUnit
  wq      : WashQueue
  au      : AdmissionUnit
  ss      : Sequencer
  ra      : ResourceUnit
  nu      : NoticeUnit
  wr      : RecordList
  free    : Nat
deriving DecidableEq, Repr

/-- The bus after a reset with the given settings and first totalizer cursor (R141), its first scan
started at the given node (R143). -/
def BusMaster.reset (settings : BusSettings) (cursor : Option FilterId) (first : NodeId) : BusMaster where
  links := Vector.replicate 23 NodeLink.reset
  filterNodes := Vector.replicate 20 FilterNode.reset
  washNode := WashNode.reset
  airNode := AirNode.reset
  wasteInput := none
  settings := settings
  scanCount := 0
  scansWithMiss := 0
  overruns := 0
  cursor := cursor
  phase := .due first
  periodExpired := false
  scanMissed := false

/-- The Admission Unit after a reset (R46). -/
def AdmissionUnit.reset (required : Nat) : AdmissionUnit where
  reportedFlow := 0
  arrival := none
  fresh := false
  required := required
  breach := false
  lastAdmission := none
  shed := []
  lastCheck := .notRun

/-- The machine right after its first power-on, with a blank store and SPEED low (log 3): the defaults are
loaded, the part is in SETUP with F = 0, and FAULT has been raised with filter 0 (R179, R184). -/
def State.reset : State where
  pending := []
  mc := { power := .running, mode := .setup, seconds := 0, surveyProgress := 0 }
  hlu := { receiver := .hunt, rxBuffer := [], txBuffer := [], restartPending := false, fastLink := false }
  cs := { store := none, writing := none, working := WorkingConfig.defaults }
  gbm := BusMaster.reset ⟨0, 250, 4, 4⟩ none .washWater
  ft := { records := Vector.replicate 20 (FilterRecord.reset .unused) }
  te := { triggers := Vector.replicate 20 Triggers.armed }
  wq := { entries := [], changeNumber := 0 }
  au := AdmissionUnit.reset 0
  ss := { contexts := Vector.replicate 4 none }
  ra := ResourceUnit.reset
  nu := { NoticeUnit.reset with
    accounts := (Vector.replicate 12 NoticeAccount.reset).set 3 ⟨true, 1, 0⟩
    attnDriven := true }
  wr := { records := [], nextSequence := 0 }
  free := 0

end Sys2Proof.Machine
end

