-- ==== Sys2Proof/Machine/Wire.lean ====
section
/-! DEFINITION. Bytes on the two links: byte order (R168), the CRC (R161), host frames (R160, R164),
gallery polls and answers (R169). -/

namespace Sys2Proof.Machine

/-! ### Byte order (R168: most significant byte first) -/

/-- A quantity of one byte. -/
def be8 (n : Nat) : List Byte := [BitVec.ofNat 8 n]

/-- A quantity of two bytes. -/
def be16 (n : Nat) : List Byte := [BitVec.ofNat 8 (n / 256), BitVec.ofNat 8 n]

/-- A quantity of four bytes. -/
def be32 (n : Nat) : List Byte :=
  [BitVec.ofNat 8 (n / 16777216), BitVec.ofNat 8 (n / 65536), BitVec.ofNat 8 (n / 256), BitVec.ofNat 8 n]

/-- A signed quantity: four bytes, two's complement (R168). -/
def beSigned (i : Int) : List Byte := be32 (BitVec.ofInt 32 i).toNat

/-- The byte at index `i` of a body. A body whose length has been checked has it. -/
def u8 (body : List Byte) (i : Nat) : Nat := (body.getD i 0).toNat

/-- The two bytes from index `i`. -/
def u16 (body : List Byte) (i : Nat) : Nat := u8 body i * 256 + u8 body (i + 1)

/-- The four bytes from index `i`. -/
def u32 (body : List Byte) (i : Nat) : Nat := u16 body i * 65536 + u16 body (i + 2)

/-- An absent optional field is sent with every bit set (R168). -/
def opt8 : Option Nat → List Byte
  | some n => be8 n
  | none => [0xFF]

/-- As `opt8`, two bytes. -/
def opt16 : Option Nat → List Byte
  | some n => be16 n
  | none => [0xFF, 0xFF]

/-- As `opt8`, four bytes. -/
def opt32 : Option Nat → List Byte
  | some n => be32 n
  | none => [0xFF, 0xFF, 0xFF, 0xFF]

/-- `n` places not used, sent with every bit set (R168). -/
def unused (n : Nat) : List Byte := List.replicate n 0xFF

/-- Bit `i` of a bit field is set when the `i`th member of the list is in the set (R168). -/
def bitField : List Bool → Nat
  | [] => 0
  | b :: bs => (if b then 1 else 0) + 2 * bitField bs

/-! ### The CRC (R161) -/

/-- One bit of the CRC: shift left, and add the polynomial x^16+x^12+x^5+1 when a 1 leaves at the top. -/
def crcShift (c : BitVec 16) : BitVec 16 := if c.msb then (c <<< 1) ^^^ 0x1021#16 else c <<< 1

/-- One byte of the CRC, most significant bit first. -/
def crcByte (c : BitVec 16) (b : Byte) : BitVec 16 :=
  crcShift (crcShift (crcShift (crcShift (crcShift (crcShift (crcShift (crcShift
    (c ^^^ (b.setWidth 16 <<< 8)))))))))

/-- The CRC over some bytes: initial value FFFFh, no final inversion. -/
def crc16 (bytes : List Byte) : BitVec 16 := bytes.foldl crcByte 0xFFFF#16

/-! ### Host frames (R160) -/

/-- The bytes the CRC of a host frame covers: length, kind and body (R161). -/
def frameCovered (kind : Byte) (body : List Byte) : List Byte := BitVec.ofNat 8 body.length :: kind :: body

/-- The CRC of a host frame. -/
def frameCrc (kind : Byte) (body : List Byte) : BitVec 16 := crc16 (frameCovered kind body)

/-- What the receive buffer holds of a frame: every byte after the sync byte. -/
def frameStored (kind : Byte) (body : List Byte) : List Byte :=
  frameCovered kind body ++ be16 (frameCrc kind body).toNat

/-- A whole host frame: the sync byte A5h and then the rest. -/
def frameBytes (kind : Byte) (body : List Byte) : List Byte := 0xA5#8 :: frameStored kind body

/-! ### Gallery frames (R169) -/

/-- The bytes the CRC of an answer covers: address, code, status and payload. -/
def answerCovered (a : Answer) : List Byte := a.addr :: a.code :: a.status :: a.payload

/-- The CRC of an answer is correct (R145). -/
def answerCrcOk (a : Answer) : Bool := a.crc = crc16 (answerCovered a)

/-- The node healthy flag of the status byte: bit 0 (R169). -/
def statusHealthy (status : Byte) : Bool := status.getLsbD 0

/-- The LOCAL switch of the status byte: bit 1 (R169). -/
def statusLocal (status : Byte) : Bool := status.getLsbD 1

/-- The length of an answer, CRC included, in bytes. -/
def answerLength (a : Answer) : Nat := a.payload.length + 5

/-- A poll frame: address, code, the output image for WRITE_IO, and the CRC (R169). -/
def pollBytes (addr code : Byte) (image : List Byte) : List Byte :=
  let covered := addr :: code :: image
  covered ++ be16 (crc16 covered).toNat

end Sys2Proof.Machine
end

