-- ==== Sys2Proof/Machine/Ops.lean ====
section
/-! DEFINITION. The named operations over the registers of the SR-20: valves and patterns, time, the
filter records, the contexts, the node table and its output images, the header table. Every read and
write of a register goes through one of these. -/

namespace Sys2Proof.Machine

/-! ### Valves and patterns -/

/-- The six valves in the order INF, EFF, WST, WWI, AIR, FTW (R5, R168). -/
def allValves : List Valve := [.inf, .eff, .wst, .wwi, .air, .ftw]

/-- The value for one valve. -/
def PerValve.get {α : Type} (p : PerValve α) : Valve → α
  | .inf => p.inf
  | .eff => p.eff
  | .wst => p.wst
  | .wwi => p.wwi
  | .air => p.air
  | .ftw => p.ftw

/-- A value for each valve, given by the valve. -/
def PerValve.ofFn {α : Type} (g : Valve → α) : PerValve α :=
  ⟨g .inf, g .eff, g .wst, g .wwi, g .air, g .ftw⟩

/-- The six values in the valve order. -/
def PerValve.toList {α : Type} (p : PerValve α) : List α := [p.inf, p.eff, p.wst, p.wwi, p.air, p.ftw]

/-- The position of a valve in the valve order (R168). -/
def Valve.index : Valve → Nat
  | .inf => 0
  | .eff => 1
  | .wst => 2
  | .wwi => 3
  | .air => 4
  | .ftw => 5

/-- What one input word shows of a valve: bit 2v is its open limit and bit 2v+1 its closed limit (R2, R170). -/
def viewOfLimits (openLimit closedLimit : Bool) : ValveView :=
  match openLimit, closedLimit with
  | true, false => .opened
  | false, true => .closed
  | _, _ => .travelling

/-- The six valve views of an input word (R2, R170). -/
def viewOfWord (w : BitVec 16) : PerValve ValveView :=
  PerValve.ofFn fun v => viewOfLimits (w.getLsbD (2 * v.index)) (w.getLsbD (2 * v.index + 1))

/-- The valves a pattern opens; the others are closed (R3). -/
def Pattern.opens : Pattern → Valve → Bool
  | .service, .inf | .service, .eff => true
  | .drain, .eff => true
  | .air, .air => true
  | .airwater, .air | .airwater, .wwi | .airwater, .wst => true
  | .water, .wwi | .water, .wst => true
  | .refill, .inf => true
  | .ripen, .inf | .ripen, .ftw => true
  | _, _ => false

/-- The six commanded states of a pattern. -/
def Pattern.image (p : Pattern) : PerValve Bool := PerValve.ofFn p.opens

/-- A view agrees with a commanded position; TRAVELLING agrees with neither (R13). -/
def viewAgrees (commanded : Bool) (seen : ValveView) : Bool :=
  if commanded then seen = .opened else seen = .closed

/-- A set of valves is confirmed in a pattern (R2's chapter, Valves and their confirmation). -/
def confirmed (p : Pattern) (view : PerValve ValveView) : Bool :=
  allValves.all fun v => viewAgrees (p.opens v) (view.get v)

/-- The first valve, in the valve order, that a view does not show in its position in a pattern (R5, R79, R136). -/
def firstOff (p : Pattern) (view : PerValve ValveView) : Option Valve :=
  allValves.find? fun v => !viewAgrees (p.opens v) (view.get v)

/-- The valve a failed movement names: INF when no valid input answer has been taken since it started. -/
def valveNamed (p : Pattern) (answered : Bool) (view : PerValve ValveView) : Valve :=
  if answered then (firstOff p view).getD .inf else .inf

/-- The off counts after one more answer, and the first valve that has drifted on it (R13, R81). -/
def stepOffCounts (p : Pattern) (view : PerValve ValveView) (counts : PerValve Bool) :
    PerValve Bool × Option Valve :=
  let off := PerValve.ofFn fun v => !viewAgrees (p.opens v) (view.get v)
  (off, allValves.find? fun v => off.get v && counts.get v)

/-! ### Tables -/

/-- Every element of a table changed alike. -/
def mapEach {α β : Type} {n : Nat} (g : α → β) (v : Vector α n) : Vector β n := Vector.ofFn fun i => g v[i.val]

/-! ### Time (R183) -/

/-- The current plant seconds. -/
def State.now (s : State) : Seconds := s.mc.seconds

/-- Seconds since a time stamp, through the wrap of the count (log 6). -/
def State.since (s : State) (start : Seconds) : Nat := (s.now - start).toNat

/-- A timer given in seconds has expired: plant seconds have reached its start plus its limit (R183). -/
def State.expired (s : State) (start : Seconds) (limit : Nat) : Bool := limit ≤ s.since start

/-! ### Lists of the fixed numbers -/

/-- Filters 1 to 20, in order. -/
def allFilters : List FilterId := List.finRange 20

/-- Slots 0 to 3, in order. -/
def allSlots : List Slot := List.finRange 4

/-- The filter number, 1 to 20. -/
def filterNumber (f : FilterId) : Nat := f.val + 1

/-- The filter of a number, if it is 1 to 20. -/
def filterOfNumber? (n : Nat) : Option FilterId :=
  if h : 1 ≤ n ∧ n ≤ 20 then some ⟨n - 1, by omega⟩ else none

/-- The slot of a number, if it is 0 to 3. -/
def slotOfNumber? (n : Nat) : Option Slot := if h : n < 4 then some ⟨n, h⟩ else none

/-! ### Configuration -/

/-- The working plant configuration. -/
def State.plant (s : State) : PlantConfig := s.cs.working.plant

/-- A filter's working configuration. -/
def State.filterConfig (s : State) (f : FilterId) : FilterConfig := s.cs.working.filters[f.val]

/-- F in use by the bus and the tables (R141, R159; log 35). -/
def State.filterCount (s : State) : Nat := s.gbm.settings.filterCount

/-! ### Filter records -/

/-- A filter record. -/
def State.filter (s : State) (f : FilterId) : FilterRecord := s.ft.records[f.val]

/-- Replace a filter record. -/
def State.setFilter (s : State) (f : FilterId) (r : FilterRecord) : State :=
  { s with ft := { records := s.ft.records.set f.val r } }

/-- Change a filter record. -/
def State.modFilter (s : State) (f : FilterId) (g : FilterRecord → FilterRecord) : State :=
  s.setFilter f (g (s.filter f))

/-- A filter's trigger states. -/
def State.trig (s : State) (f : FilterId) : Triggers := s.te.triggers[f.val]

/-- Replace a filter's trigger states. -/
def State.setTrig (s : State) (f : FilterId) (t : Triggers) : State :=
  { s with te := { triggers := s.te.triggers.set f.val t } }

/-! ### Wash contexts -/

/-- The context in a slot; absent when the slot is FREE. -/
def State.ctx (s : State) (c : Slot) : Option WashContext := s.ss.contexts[c.val]

/-- Replace the context in a slot. -/
def State.setCtx (s : State) (c : Slot) (w : Option WashContext) : State :=
  { s with ss := { contexts := s.ss.contexts.set c.val w } }

/-- Change the context in a slot; a FREE slot stays FREE. -/
def State.modCtx (s : State) (c : Slot) (g : WashContext → WashContext) : State :=
  s.setCtx c ((s.ctx c).map g)

/-- The context in a slot is in the given state. -/
def State.ctxIs (s : State) (c : Slot) (st : WashState) : Bool :=
  match s.ctx c with
  | some w => w.state = st
  | none => false

/-- The slot of the context that names a filter, if any. -/
def State.slotNaming (s : State) (f : FilterId) : Option Slot :=
  allSlots.find? fun c =>
    match s.ctx c with
    | some w => w.filter = f
    | none => false

/-- An ORPHAN context names the filter (R12). -/
def State.orphanNames (s : State) (f : FilterId) : Bool :=
  allSlots.any fun c =>
    match s.ctx c with
    | some w => w.filter = f && w.state = .orphan
    | none => false

/-- How many contexts are not FREE (R53). -/
def State.busySlots (s : State) : Nat := (allSlots.filter fun c => (s.ctx c).isSome).length

/-! ### The node table -/

/-- The index of a node's link, its gallery address less 1. -/
def NodeId.index : NodeId → Fin 23
  | .filter f => ⟨f.val, by omega⟩
  | .washWater => 20
  | .airNode => 21
  | .waste => 22

/-- The gallery address of a node (R141). -/
def NodeId.address (n : NodeId) : Nat := n.index.val + 1

/-- The node of a gallery address, if it is 1 to 23. -/
def nodeOfAddress? (a : Nat) : Option NodeId :=
  if a = 21 then some .washWater
  else if a = 22 then some .airNode
  else if a = 23 then some .waste
  else (filterOfNumber? a).map .filter

/-- The link of a node. -/
def State.link (s : State) (n : NodeId) : NodeLink := s.gbm.links[n.index.val]

/-- Replace the link of a node. -/
def State.setLink (s : State) (n : NodeId) (l : NodeLink) : State :=
  { s with gbm := { s.gbm with links := s.gbm.links.set n.index.val l } }

/-- A node is LOST. -/
def State.isLost (s : State) (n : NodeId) : Bool := (s.link n).lost

/-- A node is polled: filters 1 to F, and nodes 21 to 23 (R141). -/
def State.polled (s : State) : NodeId → Bool
  | .filter f => f.val < s.filterCount
  | _ => true

/-- A filter node's entry. -/
def State.fnode (s : State) (f : FilterId) : FilterNode := s.gbm.filterNodes[f.val]

/-- Replace a filter node's entry. -/
def State.setFnode (s : State) (f : FilterId) (n : FilterNode) : State :=
  { s with gbm := { s.gbm with filterNodes := s.gbm.filterNodes.set f.val n } }

/-- An owner writes a filter node's output image: the write is owed, whether or not a valve changes (R148). -/
def State.writeImage (s : State) (f : FilterId) (image : PerValve Bool) : State :=
  s.setFnode f { s.fnode f with image := image, owed := true }

/-- The RA writes node 21's output image (R93, R148). -/
def State.writePumps (s : State) (image : PumpImage) : State :=
  { s with gbm := { s.gbm with washNode := { s.gbm.washNode with image := image, owed := true } } }

/-- The RA writes node 22's output image. -/
def State.writeBlowers (s : State) (image : BlowerImage) : State :=
  { s with gbm := { s.gbm with airNode := { s.gbm.airNode with image := image, owed := true } } }

/-! ### Header table (R92) -/

/-- One header's entry. -/
def HeaderTable.get (t : HeaderTable) : Header → HeaderEntry
  | .air => t.air
  | .wash => t.wash
  | .ftw => t.ftw

/-- Replace one header's entry. -/
def HeaderTable.set (t : HeaderTable) (h : Header) (e : HeaderEntry) : HeaderTable :=
  match h with
  | .air => { t with air := e }
  | .wash => { t with wash := e }
  | .ftw => { t with ftw := e }

/-- The three headers, in the order of R92. -/
def allHeaders : List Header := [.air, .wash, .ftw]

/-- A header's capacity. -/
def Header.capacity : Header → Nat
  | .air => 1
  | .wash => 1
  | .ftw => 2

/-- A header's inlet valve at each filter. -/
def Header.inlet : Header → Valve
  | .air => .air
  | .wash => .wwi
  | .ftw => .ftw

/-- The pair that feeds a header; the FTW channel has none. -/
def Header.pair? : Header → Option SupplyPair
  | .air => some .blowers
  | .wash => some .pumps
  | .ftw => none

/-- The supply node that feeds a header. -/
def Header.node? : Header → Option NodeId
  | .air => some .airNode
  | .wash => some .washWater
  | .ftw => none

/-- The header a pair feeds. -/
def pairHeader : SupplyPair → Header
  | .blowers => .air
  | .pumps => .wash

/-- A header's entry in the state. -/
def State.header (s : State) (h : Header) : HeaderEntry := s.ra.headers.get h

/-- Replace a header's entry in the state. -/
def State.setHeader (s : State) (h : Header) (e : HeaderEntry) : State :=
  { s with ra := { s.ra with headers := s.ra.headers.set h e } }

/-- A context has a holding of a header. -/
def State.holds (s : State) (c : Slot) (h : Header) : Bool := (s.header h).holdings.any fun x => x.slot = c

/-- A context has a HELD holding of a header. -/
def State.holdsHeld (s : State) (c : Slot) (h : Header) : Bool :=
  (s.header h).holdings.any fun x => x.slot = c && !x.orphan

/-- A context has an ORPHAN holding of a header. -/
def State.holdsOrphan (s : State) (c : Slot) (h : Header) : Bool :=
  (s.header h).holdings.any fun x => x.slot = c && x.orphan

/-- The headers held by a context (R73, R92). -/
def State.headersHeld (s : State) (c : Slot) : HeaderSet :=
  ⟨s.holds c .air, s.holds c .wash, s.holds c .ftw⟩

/-- The header a context awaits: the one in whose wait list it stands (R78, R94). -/
def State.headerAwaited (s : State) (c : Slot) : Option Header :=
  allHeaders.find? fun h => c ∈ (s.header h).waiting

/-- Take a context out of every wait list; the waiters behind it move up (R96). -/
def State.leaveWaits (s : State) (c : Slot) : State :=
  let out := fun (e : HeaderEntry) => { e with waiting := e.waiting.filter fun x => x != c }
  { s with ra := { s.ra with headers :=
      ⟨out s.ra.headers.air, out s.ra.headers.wash, out s.ra.headers.ftw⟩ } }

/-- Remove a context's holding of a header; the others keep their order (log 45). -/
def State.dropHolding (s : State) (c : Slot) (h : Header) : State :=
  s.setHeader h { s.header h with holdings := (s.header h).holdings.filter fun x => x.slot != c }

/-- Every holding of a context becomes ORPHAN (R109). -/
def State.orphanHoldings (s : State) (c : Slot) : State :=
  let mark := fun (e : HeaderEntry) =>
    { e with holdings := e.holdings.map fun x => if x.slot = c then { x with orphan := true } else x }
  { s with ra := { s.ra with headers :=
      ⟨mark s.ra.headers.air, mark s.ra.headers.wash, mark s.ra.headers.ftw⟩ } }

/-! ### Supply pairs (R93, R99) -/

/-- The other unit of a pair. -/
def UnitId.other : UnitId → UnitId
  | .a => .b
  | .b => .a

/-- A unit is in a set. -/
def UnitSet.has (x : UnitSet) : UnitId → Bool
  | .a => x.a
  | .b => x.b

/-- Put a unit in a set, or take it out. -/
def UnitSet.put (x : UnitSet) (u : UnitId) (v : Bool) : UnitSet :=
  match u with
  | .a => { x with a := v }
  | .b => { x with b := v }

/-- The duty pointer of a pair. -/
def State.duty (s : State) : SupplyPair → UnitId
  | .blowers => s.ra.blowerDuty
  | .pumps => s.ra.pumpDuty

/-- Set the duty pointer of a pair. -/
def State.setDuty (s : State) (p : SupplyPair) (u : UnitId) : State :=
  match p with
  | .blowers => { s with ra := { s.ra with blowerDuty := u } }
  | .pumps => { s with ra := { s.ra with pumpDuty := u } }

/-- The equipment fault flags of a pair. -/
def State.unitFaults (s : State) : SupplyPair → UnitSet
  | .blowers => s.ra.blowerFault
  | .pumps => s.ra.pumpFault

/-- Set or clear the equipment fault flag of a unit. -/
def State.setUnitFault (s : State) (p : SupplyPair) (u : UnitId) (v : Bool) : State :=
  match p with
  | .blowers => { s with ra := { s.ra with blowerFault := s.ra.blowerFault.put u v } }
  | .pumps => { s with ra := { s.ra with pumpFault := s.ra.pumpFault.put u v } }

/-- The supply of a pair as run for a context. -/
def WashContext.supply (w : WashContext) : SupplyPair → SupplyState
  | .blowers => w.airSupply
  | .pumps => w.washSupply

/-- Set the supply of a pair as run for a context. -/
def WashContext.setSupply (w : WashContext) (p : SupplyPair) (x : SupplyState) : WashContext :=
  match p with
  | .blowers => { w with airSupply := x }
  | .pumps => { w with washSupply := x }

/-- Write a pair's image so that the units of the set run and the others are at stop; the setpoint of the
pumps is kept (R99, R100, R101). -/
def State.writeUnits (s : State) (p : SupplyPair) (run : UnitSet) : State :=
  match p with
  | .blowers => s.writeBlowers ⟨run.a, run.b⟩
  | .pumps => s.writePumps ⟨run.a, run.b, s.gbm.washNode.image.setpoint⟩

/-- The set of one unit. -/
def UnitSet.only (u : UnitId) : UnitSet := (⟨false, false⟩ : UnitSet).put u true

/-- Write the stop image of a pair: both units at stop and, for the pumps, a setpoint of 0 (R98). -/
def State.writeStop (s : State) : SupplyPair → State
  | .blowers => s.writeBlowers ⟨false, false⟩
  | .pumps => s.writePumps ⟨false, false, 0⟩

/-- The run feedback of a unit in the latest valid answer of its node; inactive before the first (R107). -/
def State.feedback (s : State) (p : SupplyPair) (u : UnitId) : Bool :=
  match p, u with
  | .blowers, .a => match s.gbm.airNode.input with | some i => i.a | none => false
  | .blowers, .b => match s.gbm.airNode.input with | some i => i.b | none => false
  | .pumps, .a => match s.gbm.washNode.input with | some i => i.a | none => false
  | .pumps, .b => match s.gbm.washNode.input with | some i => i.b | none => false

/-- The tank available volume of node 21's latest valid answer, 0 before the first (R55, R107). -/
def State.tankAvailable (s : State) : Nat :=
  match s.gbm.washNode.input with
  | some i => i.tank
  | none => 0

/-- The header flow of node 21's latest valid answer, 0 before the first. -/
def State.headerFlow (s : State) : Nat :=
  match s.gbm.washNode.input with
  | some i => i.flow
  | none => 0

/-- The basin free volume of node 23's latest valid answer, 0 before the first. -/
def State.basinFree (s : State) : Nat :=
  match s.gbm.wasteInput with
  | some i => i.basin
  | none => 0

/-! ### Steps of a context -/

/-- The pattern a step kind runs (R67, R76). -/
def StepKind.pattern : StepKind → Pattern
  | .drain => .drain
  | .air => .air
  | .airwater => .airwater
  | .water => .water
  | .settle => .settle
  | .refill => .refill
  | .ripen => .ripen

/-- The headers a step kind needs, in the order it asks for them (R76, R78). -/
def StepKind.headers : StepKind → List Header
  | .air => [.air]
  | .airwater => [.air, .wash]
  | .water => [.wash]
  | .ripen => [.ftw]
  | .drain | .settle | .refill => []

/-- The step at a context's step index; absent for the RETURN pseudo-step (R86). -/
def WashContext.planned? (w : WashContext) : Option PlannedStep := w.profile.steps[w.stepIndex]?

/-- The kind of the step at a context's step index; absent for RETURN. -/
def WashContext.kind? (w : WashContext) : Option StepKind := w.planned?.map fun p => p.step.kind

/-- The pattern of the step at a context's step index; SERVICE for RETURN (R76). -/
def WashContext.pattern (w : WashContext) : Pattern :=
  match w.kind? with
  | some k => k.pattern
  | none => .service

/-- The headers the step at a context's step index needs; none for RETURN. -/
def WashContext.needs (w : WashContext) : List Header :=
  match w.kind? with
  | some k => k.headers
  | none => []

/-- The pattern of an exit kind (R127). -/
def ExitKind.pattern : ExitKind → Pattern
  | .returnExit | .lateExit => .service
  | .safeExit => .isolated

end Sys2Proof.Machine
end

