-- ==== Sys2Proof/Machine/Flags.lean ====
section
/-! DEFINITION. The computed flags and counts: the notice accounts, ATTN and GDE (R171, R174, R157), the filters in
service, the required service count and the floor (R48, R49), profile validity and planned volumes
(R69, R71), the flow tests (R103), the configuration's validation (R182). -/

namespace Sys2Proof.Machine

/-! ### Notices, ATTN and GDE -/

/-- The place of a kind in the notice kind list (R168). -/
def NoticeKind.index : NoticeKind → Fin 12
  | .washStart => 0
  | .washEnd => 1
  | .washExit => 2
  | .fault => 3
  | .trip => 4
  | .floor => 5
  | .node => 6
  | .drift => 7
  | .change => 8
  | .volume => 9
  | .flowStale => 10
  | .equipment => 11

/-- A kind is enabled in the working configuration (R171). -/
def State.noticeEnabled (s : State) (k : NoticeKind) : Bool := s.cs.working.enables.getLsbD k.index.val

/-- Some kind is pending. -/
def NoticeUnit.anyPending (u : NoticeUnit) : Bool := u.accounts.toList.any fun a => a.pending

/-- ATTN is driven while a kind is pending, except during a retrigger gap (R174). -/
def NoticeUnit.updateAttn (u : NoticeUnit) : NoticeUnit :=
  { u with attnDriven := u.anyPending && !u.attnGap }

/-- GDE is active: the part transmits a poll. While RSTN is held or VDD is absent it is inactive (R157). No row marks the end
of a poll's transmission, so that the level stands until the transaction ends (log 40). -/
def State.gdeActive (s : State) : Bool :=
  s.mc.power = .running &&
    (match s.gbm.phase with
      | .awaiting _ _ => true
      | .idle | .due _ => false)

/-- One more occurrence in an account (R171). -/
def NoticeAccount.occur (a : NoticeAccount) (filterNo : Nat) : NoticeAccount :=
  { pending := true, count := if a.count < 255 then a.count + 1 else 255, lastFilter := filterNo }

/-- An occurrence of a kind with a filter number or 0. A disabled kind changes nothing (R171). -/
def State.raise (s : State) (k : NoticeKind) (filterNo : Nat) : State :=
  if s.noticeEnabled k then
    { s with nu := NoticeUnit.updateAttn { s.nu with
        accounts := s.nu.accounts.set k.index.val ((s.nu.accounts[k.index.val]).occur filterNo) } }
  else s

/-! ### The service floor -/

/-- A filter is in state SERVICE. -/
def State.inService (s : State) (f : FilterId) : Bool := (s.filter f).state = .service

/-- A filter in SERVICE has a movement to ISOLATED in travel. -/
def State.isolating (s : State) (f : FilterId) : Bool :=
  s.inService f && (match (s.filter f).pending with
    | some m => !m.toService
    | none => false)

/-- S, the number of filters in SERVICE (R49). -/
def State.serviceCount (s : State) : Nat := (allFilters.filter fun f => s.inService f).length

/-- k, the number of filters in SERVICE whose movement to ISOLATED is in travel (R41, R52). -/
def State.isolatingCount (s : State) : Nat := (allFilters.filter fun f => s.isolating f).length

/-- The flow in use: the reported flow while FRESH, the fallback flow while STALE; it has no value while the
fallback flow has none (R48). -/
def State.flowInUse (s : State) : Option Nat :=
  if s.au.fresh then some s.au.reportedFlow else s.plant.fallbackFlow

/-- A quotient rounded up. -/
def ceilDiv (a b : Nat) : Nat := (a + b - 1) / b

/-- R: the flow in use over the max filter flow, rounded up; held at 0 while a value is missing (R48; log 12). -/
def requiredFor (flow maxFlow : Option Nat) : Nat :=
  match flow, maxFlow with
  | some q, some m => ceilDiv q m
  | _, _ => 0

/-- Set the floor state. -/
def State.setBreach (s : State) (b : Bool) : State := { s with au := { s.au with breach := b } }

/-- The AU evaluates the floor, and raises FLOOR on a change (R49). -/
def State.evalFloorNow (s : State) : State :=
  if decide (s.serviceCount < s.au.required) = s.au.breach then s
  else (s.setBreach (decide (s.serviceCount < s.au.required))).raise .floor 0

/-- The AU evaluates the floor, but not in SURVEY nor while F is 0 (R49; log 35). -/
def State.evalFloor (s : State) : State :=
  if s.mc.mode = .survey || s.filterCount = 0 then s else s.evalFloorNow

/-- The AU recomputes R (R48). -/
def State.setRequired (s : State) : State :=
  { s with au := { s.au with required := requiredFor s.flowInUse s.plant.maxFilterFlow } }

/-- The AU recomputes R and evaluates the floor (R48). -/
def State.recomputeRequired (s : State) : State := s.setRequired.evalFloor

/-- The floor gate (R52): NORMAL, and S - k - 1 is at least R. -/
def State.floorGate (s : State) : Bool :=
  !s.au.breach && s.au.required + s.isolatingCount + 1 ≤ s.serviceCount

/-- The slot gate (R53). -/
def State.slotGate (s : State) : Bool :=
  (allSlots.any fun c => (s.ctx c).isNone) && s.busySlots < s.plant.maxOut

/-- The spacing gate (R53). -/
def State.spacingGate (s : State) : Bool :=
  match s.au.lastAdmission with
  | none => true
  | some t => s.expired t s.plant.rotationSpacing

/-- The supply gate (R53). -/
def State.supplyGate (s : State) : Bool := !s.isLost .washWater && !s.isLost .waste

/-! ### Profiles -/

/-- A step is a WATER or AIRWATER step. -/
def StepKind.isWater : StepKind → Bool
  | .water | .airwater => true
  | _ => false

/-- The fields of a step are ones its kind may have (R68). -/
def ProfileStep.fieldsOk (p : ProfileStep) : Bool :=
  (1 ≤ p.duration && p.duration ≤ 1800) &&
  (match p.kind with
    | .drain | .refill => p.flowTarget = 0 && p.fallbackFlow = 0 && p.levelTarget ≤ 3000
    | .air | .settle => p.flowTarget = 0 && p.fallbackFlow = 0 && p.levelTarget = 0
    | .airwater | .water =>
      (50 ≤ p.flowTarget && p.flowTarget ≤ 2000) &&
      (p.fallbackFlow = 0 || 50 ≤ p.fallbackFlow && p.fallbackFlow < p.flowTarget) && p.levelTarget = 0
    | .ripen => p.flowTarget = 0 && p.fallbackFlow = 0 && p.levelTarget = 0 && !p.holdPoint)

/-- The four tests of R69 on the step at an index of a profile. -/
def stepPasses (steps : List ProfileStep) (i : Nat) (p : ProfileStep) : Bool :=
  p.fieldsOk &&
  (i != 0 || p.kind = .drain) &&
  (!(p.kind = .air || p.kind = .airwater) || (steps.take i).all fun q => q.kind != .water) &&
  (p.kind != .ripen || i + 1 = steps.length)

/-- The failing index of a profile, or none when it is valid (R69). -/
def failingIndex (steps : List ProfileStep) : Option Nat :=
  match steps.zipIdx.find? fun x => !stepPasses steps x.2 x.1 with
  | some x => some x.2
  | none => if steps.any fun p => p.kind.isWater then none else some (steps.length - 1)

/-- A profile is valid (R69). -/
def profileValid (steps : List ProfileStep) : Bool := (failingIndex steps).isNone

/-- The planned water volume of a step (R71). -/
def plannedWater (p : ProfileStep) : Nat :=
  if p.kind.isWater then ceilDiv (p.flowTarget * p.duration) 1000 else 0

/-- The planned waste volume of a step (R71). -/
def plannedWaste (ftwRate : Nat) (p : ProfileStep) : Nat :=
  if p.kind = .ripen then ceilDiv (ftwRate * p.duration) 1000 else plannedWater p

/-- The water demand of a profile (R71). -/
def waterDemand (steps : List ProfileStep) : Nat := (steps.map plannedWater).sum

/-- The waste demand of a profile (R71). -/
def wasteDemand (ftwRate : Nat) (steps : List ProfileStep) : Nat := (steps.map (plannedWaste ftwRate)).sum

/-- The index of the last WATER or AIRWATER step; 0 if there is none (R73). -/
def lastWaterIndex (steps : List ProfileStep) : Nat :=
  steps.zipIdx.foldl (fun acc x => if x.1.kind.isWater then x.2 else acc) 0

/-- The copy of a profile a context takes (R89). -/
def copyProfile (number ftwRate : Nat) (steps : List ProfileStep) : ProfileCopy where
  number := number
  steps := steps.map fun p => ⟨p, plannedWater p, plannedWaste ftwRate p⟩
  lastWater := lastWaterIndex steps
  waterDemand := waterDemand steps
  wasteDemand := wasteDemand ftwRate steps

/-- A profile of the working configuration; none for a number above 7. -/
def State.profile? (s : State) (n : Nat) : Option (List ProfileStep) := s.cs.working.profiles[n]?

/-- The profile a filter's configuration names, with its number; none while the filter configuration is unwritten. -/
def State.profileOf (s : State) (f : FilterId) : Option (Nat × List ProfileStep) :=
  match (s.filterConfig f).settings with
  | none => none
  | some c => (s.profile? c.profile).map fun steps => (c.profile, steps)

/-- The volume test (R55), on signed quantities. A reserve without a value lets nothing pass. -/
def State.volumeTest (s : State) (steps : List ProfileStep) : Bool :=
  match s.plant.tankReserve, s.plant.basinReserve with
  | some tr, some br =>
    decide ((waterDemand steps : Int) + tr ≤ (s.tankAvailable : Int) - s.ra.tankTotal) &&
    decide ((wasteDemand s.plant.ftwRate steps : Int) + br ≤ (s.basinFree : Int) - s.ra.basinTotal)
  | _, _ => false

/-! ### Flow tests (R103) -/

/-- The flow is within tolerance of a setpoint. -/
def flowWithin (flow setpoint tolerance : Nat) : Bool :=
  setpoint * (100 - tolerance) ≤ 100 * flow && 100 * flow ≤ setpoint * (100 + tolerance)

/-- The flow is below tolerance of a setpoint. -/
def flowBelow (flow setpoint tolerance : Nat) : Bool := 100 * flow < setpoint * (100 - tolerance)

/-! ### Validation of the configuration (R182) -/

/-- The plant settings that can have no value, with their item indexes in the order of R180. -/
def plantItems (p : PlantConfig) : List (Nat × Bool) :=
  [(1, decide (2 ≤ p.filterCount)), (3, p.maxFilterFlow.isSome), (4, p.fallbackFlow.isSome),
    (7, p.tankReserve.isSome), (8, p.basinReserve.isSome), (22, p.tankThreshold.isSome), (23, p.basinThreshold.isSome)]

/-- Filter configurations 1 to F, with item index 40 + n. -/
def filterItems (w : WorkingConfig) : List (Nat × Bool) :=
  (allFilters.filter fun f => f.val < w.plant.filterCount).map fun f =>
    (40 + filterNumber f, (w.filters[f.val]).settings.isSome)

/-- The first failing item of a working configuration, or none when it is valid (R182). -/
def failingItem (w : WorkingConfig) : Option Nat :=
  ((plantItems w.plant ++ filterItems w).find? fun x => !x.2).map fun x => x.1

end Sys2Proof.Machine
end

