-- ==== Sys2Proof/Machine/Operands.lean ====
section
/-! DEFINITION. The operand forms: the code lists of R168, the bodies of the requests that carry more than
one number (R70, R90, R180), the gallery codes, lengths and payloads (R142, R169), and the fields of the
byte layouts that several replies share. -/

namespace Sys2Proof.Machine

/-! ### Code lists (R168), codes from 0 -/

/-- part mode -/
def PartMode.code : PartMode → Nat
  | .survey => 0
  | .setup => 1
  | .hold => 2
  | .auto => 3

/-- The mode of a code. -/
def modeOfCode? : Nat → Option PartMode
  | 0 => some .survey
  | 1 => some .setup
  | 2 => some .hold
  | 3 => some .auto
  | _ => none

/-- filter state -/
def FilterState.code : FilterState → Nat
  | .unused => 0
  | .service => 1
  | .wash => 2
  | .held => 3
  | .unknown => 4
  | .fault => 5
  | .localCtl => 6

/-- held condition: none, CLEAN, DIRTY -/
def heldCode : Option HeldCondition → Nat
  | none => 0
  | some .clean => 1
  | some .dirty => 2

/-- pattern -/
def Pattern.code : Pattern → Nat
  | .service => 0
  | .isolated => 1
  | .drain => 2
  | .air => 3
  | .airwater => 4
  | .water => 5
  | .settle => 6
  | .refill => 7
  | .ripen => 8

/-- The pattern a movement of the FT targets. -/
def Movement.pattern (m : Movement) : Pattern := if m.toService then .service else .isolated

/-- valve view, 2 bits per valve -/
def ValveView.code : ValveView → Nat
  | .closed => 0
  | .opened => 1
  | .travelling => 2

/-- class -/
def WashClass.code : WashClass → Nat
  | .breakthrough => 0
  | .rewash => 1
  | .headloss => 2
  | .host => 3
  | .scheduled => 4

/-- cause set bits: TURBIDITY, REWASH, HEADLOSS, HOST, RUNTIME, VOLUME -/
def CauseSet.bits (c : CauseSet) : Nat := bitField [c.turbidity, c.rewash, c.headloss, c.host, c.runtime, c.volume]

/-- context state: FREE, ACTIVE, EXITING, ORPHAN -/
def ctxCode : Option WashContext → Nat
  | none => 0
  | some w =>
    match w.state with
    | .active => 1
    | .exiting => 2
    | .orphan => 3

/-- step kind; RETURN for the absent kind -/
def kindCode : Option StepKind → Nat
  | some .drain => 0
  | some .air => 1
  | some .airwater => 2
  | some .water => 3
  | some .settle => 4
  | some .refill => 5
  | some .ripen => 6
  | none => 7

/-- The step kind of a code; RETURN is in contexts and records only. -/
def kindOfCode? : Nat → Option StepKind
  | 0 => some .drain
  | 1 => some .air
  | 2 => some .airwater
  | 3 => some .water
  | 4 => some .settle
  | 5 => some .refill
  | 6 => some .ripen
  | _ => none

/-- phase -/
def Phase.code : Phase → Nat
  | .acquire => 0
  | .setting => 1
  | .starting => 2
  | .ramping => 3
  | .timing => 4
  | .holdpoint => 5

/-- progress mark -/
def Progress.code : Progress → Nat
  | .none => 0
  | .airwaterBegun => 1
  | .washed => 2

/-- header bits: AIR, WASH, FTW -/
def HeaderSet.bits (h : HeaderSet) : Nat := bitField [h.air, h.wash, h.ftw]

/-- A single header where one is named: the place of its member in the header list. -/
def Header.code : Header → Nat
  | .air => 0
  | .wash => 1
  | .ftw => 2

/-- exit kind -/
def ExitKind.code : ExitKind → Nat
  | .returnExit => 0
  | .safeExit => 1
  | .lateExit => 2

/-- fault cause -/
def FaultCause.code : FaultCause → Nat
  | .valveTravel => 0
  | .valveDrift => 1
  | .trip => 2
  | .pumpStart => 3
  | .blowerStart => 4
  | .flowLow => 5
  | .headerWait => 6
  | .holdLimit => 7
  | .nodeLost => 8
  | .supplyLost => 9
  | .localTaken => 10
  | .hostExit => 11
  | .resetInterrupted => 12

/-- outcome -/
def WashOutcome.code : WashOutcome → Nat
  | .complete => 0
  | .completeReduced => 1
  | .shortRipen => 2
  | .rewash => 3
  | .ineffective => 4
  | .returned => 5
  | .heldExit => 6
  | .faulted => 7
  | .orphaned => 8
  | .localTaken => 9
  | .resetInterrupted => 10

/-- ripen result -/
def RipenResult.code : RipenResult → Nat
  | .none => 0
  | .good => 1
  | .unmet => 2

/-- check result -/
def CheckResult.code : CheckResult → Nat
  | .notRun => 0
  | .floor => 1
  | .slots => 2
  | .spacing => 3
  | .supply => 4
  | .empty => 5
  | .noneEligible _ _ => 6
  | .admitted _ => 7

/-- The filter a check result names. -/
def CheckResult.filter? : CheckResult → Option FilterId
  | .noneEligible f _ => some f
  | .admitted f => some f
  | _ => none

/-- pass-over reason -/
def PassOver.code : PassOver → Nat
  | .state => 0
  | .trip => 1
  | .drift => 2
  | .node => 3
  | .profile => 4
  | .volume => 5

/-- The pass-over reason a check result carries. -/
def CheckResult.reason? : CheckResult → Option PassOver
  | .noneEligible _ r => some r
  | _ => none

/-- supply state -/
def SupplyState.code : SupplyState → Nat
  | .stopped => 0
  | .starting _ _ _ => 1
  | .running _ _ => 2

/-- The unit a supply names. -/
def SupplyState.unit? : SupplyState → Option UnitId
  | .stopped => none
  | .starting u _ _ => some u
  | .running u _ => some u

/-- unit, duty pointer -/
def UnitId.code : UnitId → Nat
  | .a => 0
  | .b => 1

/-- The units and pairs of the four unit targets of CLEAR: pump A, pump B, blower A, blower B. -/
def clearUnitOf? : Nat → Option (SupplyPair × UnitId)
  | 3 => some (.pumps, .a)
  | 4 => some (.pumps, .b)
  | 5 => some (.blowers, .a)
  | 6 => some (.blowers, .b)
  | _ => none

/-- A yes or no, 1 or 0; where no rule gives a field's two codes this is the model's choice (log 44). -/
def flagCode (b : Bool) : Nat := if b then 1 else 0

/-- Six valve states, one bit each, 1 open (R169). -/
def valveBits (p : PerValve Bool) : Nat := bitField p.toList

/-- Six valve views, two bits each, INF in bits 0 and 1. -/
def viewBits (p : PerValve ValveView) : Nat := p.toList.foldr (fun v acc => v.code + 4 * acc) 0

/-! ### Range tests -/

/-- `lo` to `hi`, both ends included. -/
def inRange (lo hi n : Nat) : Bool := lo ≤ n && n ≤ hi

/-! ### Profile steps (R70, layout of the profile step) -/

/-- The ten bytes of a step. -/
def ProfileStep.bytes (p : ProfileStep) : List Byte :=
  be8 (kindCode (some p.kind)) ++ be16 p.duration ++ be16 p.flowTarget ++ be16 p.fallbackFlow ++
    be16 p.levelTarget ++ be8 (flagCode p.holdPoint)

/-- The step at byte `at` of a PROFILE-WRITE body, if its fields are in the ranges of R70 (log 24 for the
hold point byte). -/
def stepAt? (body : List Byte) (i : Nat) : Option ProfileStep :=
  match kindOfCode? (u8 body i) with
  | none => none
  | some k =>
    if inRange 1 1800 (u16 body (i + 1)) && u16 body (i + 3) ≤ 2000 && u16 body (i + 5) ≤ 2000 &&
        u16 body (i + 7) ≤ 3000 && u8 body (i + 9) ≤ 1 then
      some ⟨k, u16 body (i + 1), u16 body (i + 3), u16 body (i + 5), u16 body (i + 7), u8 body (i + 9) = 1⟩
    else none

/-- `n` steps from byte `i` on, all in range. -/
def stepsFrom? (body : List Byte) : Nat → Nat → Option (List ProfileStep)
  | 0, _ => some []
  | n + 1, i =>
    match stepAt? body i, stepsFrom? body n (i + 10) with
    | some p, some ps => some (p :: ps)
    | _, _ => none

/-- A PROFILE-WRITE body whose fields are in the ranges of R70: the profile number and the steps. -/
def profileWriteBody? (body : List Byte) : Option (Fin 8 × List ProfileStep) :=
  if h : u8 body 0 < 8 then
    if inRange 3 12 (u8 body 1) then (stepsFrom? body (u8 body 1) 2).map fun ps => (⟨u8 body 0, h⟩, ps) else none
  else none

/-! ### Filter configuration (R90, TUNE and FILTER-CONFIG layouts) -/

/-- The seven tunable fields in bytes 1 to 13, if they are in the ranges of R90. -/
def settingsBody? (body : List Byte) : Option FilterSettings :=
  if u8 body 1 ≤ 7 && inRange 100 3000 (u16 body 2) && inRange 50 5000 (u16 body 4) && inRange 20 2000 (u16 body 6) &&
      inRange 1 240 (u8 body 8) && u32 body 9 ≤ 999999 && u8 body 13 ≤ 1 then
    some ⟨u8 body 1, u16 body 2, u16 body 4, u16 body 6, u8 body 8, u32 body 9, u8 body 13 = 1⟩
  else none

/-- The thirteen bytes of the tunable fields. -/
def FilterSettings.bytes (c : FilterSettings) : List Byte :=
  be8 c.profile ++ be16 c.headlossLimit ++ be16 c.breakthroughLimit ++ be16 c.returnLimit ++ be8 c.runLimit ++
    be32 c.volumeLimit ++ be8 (flagCode c.isolate)

/-! ### Plant configuration (R180, PLANT-CONFIG layout) -/

/-- The settings of a PLANT-CONFIG body, if every one is in its range (log 25 for the scan period). -/
def plantBody? (b : List Byte) : Option PlantConfig :=
  if inRange 2 20 (u8 b 0) && inRange 1 4 (u8 b 1) && inRange 50 2000 (u16 b 2) && u16 b 4 ≤ 20000 &&
      inRange 10 900 (u16 b 6) && u16 b 8 ≤ 7200 && u16 b 10 ≤ 9999 && u16 b 12 ≤ 9999 &&
      inRange 10 500 (u16 b 14) && (inRange 100 1000 (u16 b 16) && u16 b 16 % 100 = 0) &&
      inRange 1 20 (u8 b 18) && inRange 2 15 (u8 b 19) && inRange 10 240 (u16 b 20) && inRange 60 3600 (u16 b 22) &&
      inRange 5 60 (u16 b 24) && inRange 20 300 (u16 b 26) && u8 b 28 ≤ 20 && inRange 60 7200 (u16 b 29) &&
      inRange 10 900 (u16 b 31) && inRange 10 600 (u16 b 33) && inRange 10 600 (u16 b 35) &&
      u16 b 37 ≤ 9999 && u16 b 39 ≤ 9999 then
    some
      { filterCount := u8 b 0
        maxOut := u8 b 1
        maxFilterFlow := some (u16 b 2)
        fallbackFlow := some (u16 b 4)
        flowTimeout := u16 b 6
        rotationSpacing := u16 b 8
        tankReserve := some (u16 b 10)
        basinReserve := some (u16 b 12)
        ftwRate := u16 b 14
        scanPeriod := u16 b 16
        replyWindow := u8 b 18
        missLimit := u8 b 19
        travelLimit := u16 b 20
        headerWait := u16 b 22
        startConfirm := u16 b 24
        rampWindow := u16 b 26
        flowTolerance := u8 b 28
        holdLimit := u16 b 29
        ripenSustain := u16 b 31
        turbidityConfirm := u16 b 33
        headlossConfirm := u16 b 35
        tankThreshold := some (u16 b 37)
        basinThreshold := some (u16 b 39) }
  else none

/-- The 41 bytes of the plant configuration, a setting without a value sent as absent (R180). -/
def PlantConfig.bytes (p : PlantConfig) : List Byte :=
  be8 p.filterCount ++ be8 p.maxOut ++ opt16 p.maxFilterFlow ++ opt16 p.fallbackFlow ++ be16 p.flowTimeout ++
    be16 p.rotationSpacing ++ opt16 p.tankReserve ++ opt16 p.basinReserve ++ be16 p.ftwRate ++ be16 p.scanPeriod ++
    be8 p.replyWindow ++ be8 p.missLimit ++ be16 p.travelLimit ++ be16 p.headerWait ++ be16 p.startConfirm ++
    be16 p.rampWindow ++ be8 p.flowTolerance ++ be16 p.holdLimit ++ be16 p.ripenSustain ++ be16 p.turbidityConfirm ++
    be16 p.headlossConfirm ++ opt16 p.tankThreshold ++ opt16 p.basinThreshold

/-! ### Gallery codes, lengths and payloads (R142, R169) -/

/-- A command code as a byte. -/
def PollCode.byte : PollCode → Byte
  | .readIo => 1
  | .writeIo => 2
  | .readTotal => 3
  | .clearTotal => 4

/-- The answer carries an input word or a supply node's readings (R142). -/
def PollCode.isInput : PollCode → Bool
  | .readIo | .writeIo => true
  | .readTotal | .clearTotal => false

/-- The length an answer must have, CRC included, for a node and a code (R169). -/
def expectedLength : NodeId → PollCode → Nat
  | .filter _, .readIo | .filter _, .writeIo => 13
  | .filter _, .readTotal | .filter _, .clearTotal => 9
  | .washWater, _ => 10
  | .airNode, _ => 8
  | .waste, _ => 8

/-- The four checks of R145 on an answer to a poll of a node with a code. -/
def answerValid (n : NodeId) (code : PollCode) (a : Answer) : Bool :=
  answerCrcOk a && a.addr.toNat = n.address && (a.code = code.byte && answerLength a = expectedLength n code) &&
    statusHealthy a.status

/-- A two-byte field of a payload. -/
def payload16 (p : List Byte) (i : Nat) : BitVec 16 := BitVec.ofNat 16 (u16 p i)

/-- A filter node's input answer: input word, headloss, level, turbidity. -/
def filterInputOf (p : List Byte) : FilterInput :=
  ⟨payload16 p 0, payload16 p 2, payload16 p 4, payload16 p 6⟩

/-- A totalizer answer. -/
def totalizerOf (p : List Byte) : BitVec 32 := BitVec.ofNat 32 (u32 p 0)

/-- Node 21's answer: feedback bits, header flow, tank available. -/
def pumpInputOf (p : List Byte) : PumpInput :=
  ⟨(p.getD 0 0).getLsbD 0, (p.getD 0 0).getLsbD 1, u16 p 1, u16 p 3⟩

/-- Node 22's answer: feedback bits, air header pressure. -/
def blowerInputOf (p : List Byte) : BlowerInput :=
  ⟨(p.getD 0 0).getLsbD 0, (p.getD 0 0).getLsbD 1, u16 p 1⟩

/-- Node 23's answer: basin free volume, recovery pump. -/
def wasteInputOf (p : List Byte) : WasteInput := ⟨u16 p 0, (p.getD 2 0).getLsbD 0⟩

/-- A filter node's input answer as payload bytes. -/
def FilterInput.bytes (i : FilterInput) : List Byte :=
  be16 i.word.toNat ++ be16 i.headloss.toNat ++ be16 i.level.toNat ++ be16 i.turbidity.toNat

/-- Node 21's readings as payload bytes. -/
def PumpInput.bytes (i : PumpInput) : List Byte := be8 (bitField [i.a, i.b]) ++ be16 i.flow ++ be16 i.tank

/-- Node 22's readings as payload bytes. -/
def BlowerInput.bytes (i : BlowerInput) : List Byte := be8 (bitField [i.a, i.b]) ++ be16 i.pressure

/-- Node 23's readings as payload bytes. -/
def WasteInput.bytes (i : WasteInput) : List Byte := be16 i.basin ++ be8 (flagCode i.recovery)

/-- Node 21's output image as poll bytes. -/
def PumpImage.bytes (i : PumpImage) : List Byte := be8 (bitField [i.a, i.b]) ++ be16 i.setpoint

/-- Node 22's output image as poll bytes. -/
def BlowerImage.bytes (i : BlowerImage) : List Byte := be8 (bitField [i.a, i.b])

/-- The output image of a node as the poll image of R169; node 23 has none. -/
def State.imageBytes (s : State) : NodeId → List Byte
  | .filter f => be8 (valveBits (s.fnode f).image)
  | .washWater => s.gbm.washNode.image.bytes
  | .airNode => s.gbm.airNode.image.bytes
  | .waste => []

/-- The frame of the poll whose answer is awaited (R169); none while no answer is awaited. A WRITE_IO poll carries
the image that the entry keeps as the image sent (R148). -/
def State.pollFrame (s : State) : List Byte :=
  match s.gbm.phase with
  | .awaiting n code =>
    let image : List Byte :=
      if code = .writeIo then
        match n with
        | .filter f => (match (s.fnode f).sent with | some i => be8 (valveBits i) | none => [])
        | .washWater => (match s.gbm.washNode.sent with | some i => i.bytes | none => [])
        | .airNode => (match s.gbm.airNode.sent with | some i => i.bytes | none => [])
        | .waste => []
      else []
    pollBytes (BitVec.ofNat 8 n.address) code.byte image
  | _ => []

end Sys2Proof.Machine
end

