-- ==== Sys2Proof/Machine/Queue.lean ====
section
/-! DEFINITION. The Wash Queue (WQ): ranks, order, insertion, upgrade, removal, reinsertion (R31 to R39). -/

namespace Sys2Proof.Machine

/-- The rank of a class; 0 is the most urgent (R31). -/
def WashClass.rank : WashClass → Nat
  | .breakthrough => 0
  | .rewash => 1
  | .headloss => 2
  | .host => 3
  | .scheduled => 4

/-- The set of one cause. -/
def CauseSet.single : WashCause → CauseSet
  | .turbidity => ⟨true, false, false, false, false, false⟩
  | .rewash => ⟨false, true, false, false, false, false⟩
  | .headloss => ⟨false, false, true, false, false, false⟩
  | .host => ⟨false, false, false, true, false, false⟩
  | .runtime => ⟨false, false, false, false, true, false⟩
  | .volume => ⟨false, false, false, false, false, true⟩

/-- The union of two cause sets. -/
def CauseSet.union (a b : CauseSet) : CauseSet :=
  ⟨a.turbidity || b.turbidity, a.rewash || b.rewash, a.headloss || b.headloss, a.host || b.host,
    a.runtime || b.runtime, a.volume || b.volume⟩

/-- The class of the highest-ranked cause in a set (R31); a cause ranks as its class. -/
def CauseSet.topClass (c : CauseSet) : WashClass :=
  if c.turbidity then .breakthrough
  else if c.rewash then .rewash
  else if c.headloss then .headloss
  else if c.host then .host
  else .scheduled

/-- The class and cause of each condition's request (R29), and of the other requests. -/
def WashCause.cls : WashCause → WashClass
  | .turbidity => .breakthrough
  | .rewash => .rewash
  | .headloss => .headloss
  | .host => .host
  | .runtime => .scheduled
  | .volume => .scheduled

/-- Entry A stands before entry B (R33): by class, then by entry time, then by filter number. -/
def entryBefore (a b : QueueEntry) : Bool :=
  a.cls.rank < b.cls.rank ||
    a.cls.rank = b.cls.rank &&
      (a.entryTime.toNat < b.entryTime.toNat || a.entryTime = b.entryTime && a.filter.val < b.filter.val)

/-- Put an entry in its place in the order. -/
def insertEntry (e : QueueEntry) : List QueueEntry → List QueueEntry
  | [] => [e]
  | x :: xs => if entryBefore e x then e :: x :: xs else x :: insertEntry e xs

/-- The entries without a filter's. -/
def withoutEntry (f : FilterId) (q : List QueueEntry) : List QueueEntry := q.filter fun x => x.filter != f

/-- A filter's entry. -/
def State.entry? (s : State) (f : FilterId) : Option QueueEntry := s.wq.entries.find? fun x => x.filter = f

/-- Replace the entries and advance the queue change number by one (R39). -/
def State.setQueue (s : State) (q : List QueueEntry) : State :=
  { s with wq := { entries := q, changeNumber := s.wq.changeNumber + 1 } }

/-- Put an entry in the queue in place of the filter's present one, if any. -/
def State.putEntry (s : State) (e : QueueEntry) : State :=
  s.setQueue (insertEntry e (withoutEntry e.filter s.wq.entries))

/-- Remove a filter's entry, if it has one (R36). -/
def State.removeEntry (s : State) (f : FilterId) : State :=
  if (s.entry? f).isSome then s.setQueue (withoutEntry f s.wq.entries) else s

/-- An entry with one more cause, its class raised when the new class ranks higher (R35). -/
def QueueEntry.upgrade (e : QueueEntry) (cause : WashCause) : QueueEntry :=
  { e with
    causes := e.causes.union (CauseSet.single cause)
    cls := if cause.cls.rank < e.cls.rank then cause.cls else e.cls }

/-- A filter may have an entry: it is in SERVICE or HELD (R32). -/
def State.queueable (s : State) (f : FilterId) : Bool :=
  (s.filter f).state = .service || (s.filter f).state = .held

/-- The WQ takes a request: insertion (R34), upgrade (R35), or dropped when the filter is in neither SERVICE nor
HELD. An upgrade that changes nothing leaves the change number (R39). -/
def State.request (s : State) (f : FilterId) (cause : WashCause) : State :=
  if s.queueable f then
    match s.entry? f with
    | none => s.putEntry ⟨f, cause.cls, CauseSet.single cause, s.now⟩
    | some e => if e.upgrade cause = e then s else s.putEntry (e.upgrade cause)
  else s

/-- The entry a reinsertion puts back, merged with one already present (R37). -/
def mergeEntry (e : QueueEntry) : Option QueueEntry → QueueEntry
  | none => e
  | some x =>
    { e with
      causes := e.causes.union x.causes
      cls := (e.causes.union x.causes).topClass
      entryTime := if x.entryTime.toNat < e.entryTime.toNat then x.entryTime else e.entryTime }

/-- The WQ reinserts an entry (R37). -/
def State.reinsert (s : State) (e : QueueEntry) : State := s.putEntry (mergeEntry e (s.entry? e.filter))

/-- The position of a filter's entry: the number of entries that stand before it (R33). -/
def State.positionOf (s : State) (f : FilterId) : Nat := s.wq.entries.findIdx fun x => x.filter = f

end Sys2Proof.Machine
end

