-- ==== Sys2Proof/Machine/Filter.lean ====
section
/-! DEFINITION. The Filter Table (FT) and the Trigger Evaluator (TE): changes of filter state and their
reports (R1, R26, R36, R49), movements outside a wash (R4, R5, R8), survey-of-one (R11), drift (R13), trips
(R14), triggers (R25 to R29). -/

namespace Sys2Proof.Machine

/-! ### Changes of filter state -/

/-- The entry of a filter that enters one of these states is discarded (R36). -/
def FilterState.discardsEntry : FilterState → Bool
  | .unknown | .fault | .localCtl | .unused => true
  | .service | .wash | .held => false

/-- A filter's state becomes `st`. On a change the TE arms the triggers of a filter that leaves SERVICE (R26), the
WQ discards the entry of a filter that enters UNKNOWN, FAULT, LOCAL or UNUSED (R36), and the AU evaluates the
floor (R49). -/
def State.changeState (s : State) (f : FilterId) (st : FilterState) : State :=
  if (s.filter f).state = st then s
  else
    let wasService := s.inService f
    let s := s.modFilter f fun r => { r with state := st }
    let s := if wasService then s.setTrig f Triggers.armed else s
    let s := if st.discardsEntry then s.removeEntry f else s
    s.evalFloor

/-! ### Movements (R5, R8) -/

/-- The FT starts a movement, or replaces the one in travel: the image is written, the pending pattern names the target
and the travel start is now (R5, R8). -/
def State.startMovement (s : State) (f : FilterId) (toService : Bool) : State :=
  let m : Movement := ⟨toService, s.now, false⟩
  (s.modFilter f fun r => { r with pending := some m, classifyDue := false }).writeImage f m.pattern.image

/-- A movement completes (R5); a filter that was HELD CLEAN and returns to SERVICE is taken as freshly washed (R16). -/
def State.completeMovement (s : State) (f : FilterId) (toService : Bool) : State :=
  if toService then
    let clean := (s.filter f).held = some .clean
    let s := s.modFilter f fun r =>
      { r with
        held := none
        commanded := some .service
        pending := none
        offCounts := PerValve.all false
        runSeconds := if clean then 0 else r.runSeconds
        totalClear := clean || r.totalClear
        shortRipen := !clean && r.shortRipen }
    s.changeState f .service
  else
    let s := s.modFilter f fun r =>
      { r with
        held := some .dirty
        fault := none
        commanded := some .isolated
        pending := none
        offCounts := PerValve.all false }
    s.changeState f .held

/-- A valid input answer while a movement is in travel: confirmation is tested (R5). -/
def State.movementAnswer (s : State) (f : FilterId) : State :=
  match (s.filter f).pending with
  | none => s
  | some m =>
    if confirmed m.pattern (s.filter f).view then s.completeMovement f m.toService
    else s.modFilter f fun r => { r with pending := some { m with answered := true } }

/-- The travel limit of a movement expires: FAULT with VALVE-TRAVEL and the valve named (R5). -/
def State.failMovement (s : State) (f : FilterId) (m : Movement) : State :=
  let v := valveNamed m.pattern m.answered (s.filter f).view
  let s := s.modFilter f fun r =>
    { r with
      held := none
      commanded := some m.pattern
      pending := none
      fault := some ⟨.valveTravel, some v⟩ }
  (s.changeState f .fault).raise .fault (filterNumber f)

/-! ### Local takeover and survey-of-one -/

/-- A filter outside a wash goes to LOCAL: movement, held condition and fault are removed; trip latch, drift flag and
image are kept (R17). -/
def State.takeLocal (s : State) (f : FilterId) : State :=
  let s := s.modFilter f fun r => { r with pending := none, held := none, fault := none, classifyDue := false }
  s.changeState f .localCtl

/-- The image a survey-of-one writes: a valve seen OPEN is commanded open, any other closed (R11). -/
def observedImage (view : PerValve ValveView) : PerValve Bool := PerValve.ofFn fun v => view.get v = .opened

/-- The outcome of a survey-of-one by the valves seen (R11). -/
def surveyOutcome (view : PerValve ValveView) : FilterState × Option HeldCondition × Option Pattern :=
  if confirmed .service view then (.service, none, some .service)
  else if confirmed .isolated view then (.held, some .dirty, some .isolated)
  else (.unknown, none, none)

/-- Survey-of-one from an input word and the LOCAL switch of one answer (R11; log 16 for the LOCAL outcome). -/
def State.surveyOfOne (s : State) (f : FilterId) (word : BitVec 16) (localActive : Bool) : State :=
  if localActive then s.takeLocal f
  else
    let view := viewOfWord word
    let out := surveyOutcome view
    let s := s.modFilter f fun r =>
      { r with
        held := out.2.1
        commanded := out.2.2
        drift := false
        offCounts := PerValve.all false
        classifyDue := false }
    let s := (s.changeState f out.1).writeImage f (observedImage view)
    if out.1 = .service && (s.filter f).trip.isSome then s.startMovement f false else s

/-! ### Drift and trips -/

/-- The drift watch on a valid input answer (R13): in SERVICE with no movement in travel. -/
def State.watchDrift (s : State) (f : FilterId) : State :=
  let r := s.filter f
  match r.commanded with
  | some p =>
    if r.state = .service && r.pending.isNone then
      let out := stepOffCounts p r.view r.offCounts
      let s' := s.modFilter f fun r => { r with offCounts := out.1 }
      if out.2.isSome && !r.drift then
        (s'.modFilter f fun r => { r with drift := true }).raise .drift (filterNumber f)
      else s'
    else s
  | none => s

/-- The inputs of a trip mask that have gone active, lowest first (R14). -/
def goneActive (mask previous word : BitVec 16) : List (Fin 16) :=
  (List.finRange 16).filter fun i => mask.getLsbD i.val && !previous.getLsbD i.val && word.getLsbD i.val

/-- The input a trip names, and the next free-value counter. With several candidates the choice among them is free
(log 9). -/
def tripInput (counter : Nat) : List (Fin 16) → Option (Fin 16) × Nat
  | [] => (none, counter)
  | [i] => (some i, counter)
  | i :: j :: rest =>
    ((i :: j :: rest)[Config.freeTripChoice counter % (i :: j :: rest).length]?, counter + 1)

/-- An input has gone active with no trip latched: latch it, raise TRIP, and isolate the filter by its state (R14). -/
def State.latchTrip (s : State) (f : FilterId) (i : Fin 16) : State :=
  let s := (s.modFilter f fun r => { r with trip := some i }).raise .trip (filterNumber f)
  let r := s.filter f
  match r.pending with
  | none => if r.state = .service then s.startMovement f false else s
  | some m => if m.toService then s.startMovement f false else s

/-- Trip detection on an input word against the previous one; tells whether a trip has been latched on this answer
(R14). -/
def State.watchTrip (s : State) (f : FilterId) (word : BitVec 16) : State × Bool :=
  let r := s.filter f
  let gone := goneActive (s.filterConfig f).tripMask r.previousWord word
  let s1 := s.modFilter f fun r => { r with previousWord := word }
  if r.trip.isSome then (s1, false)
  else
    match tripInput s.free gone with
    | (some i, n) => ({ s1 with free := n }.latchTrip f i, true)
    | (none, _) => (s1, false)

/-! ### Triggers -/

/-- One evaluation of a condition with a confirmation time; tells whether it has been met (R27). -/
def ConfirmState.eval (t : ConfirmState) (now : Seconds) (holds : Bool) (confirmTime : Nat) : ConfirmState × Bool :=
  if holds then
    match t with
    | .armed => (.confirming now, false)
    | .confirming start => if confirmTime ≤ (now - start).toNat then (.fired, true) else (.confirming start, false)
    | .fired => (.fired, false)
  else (.armed, false)

/-- The four conditions on an answer: turbidity, headloss, run time, volume (R27, R28). While the filter configuration is
unwritten their limits have no value, and whether a condition holds is free (log 10). -/
def conditionsHold (settings : Option FilterSettings) (counter : Nat) (r : FilterRecord) : Bool × Bool × Bool × Bool :=
  match settings with
  | some c =>
    (c.breakthroughLimit ≤ r.turbidity.toNat, c.headlossLimit ≤ r.headloss.toNat,
      c.runLimit * 3600 ≤ r.runSeconds,
      !r.totalClear && c.volumeLimit != 0 && c.volumeLimit ≤ r.filteredVolume)
  | none =>
    (Config.freeConditionHolds counter 0, Config.freeConditionHolds counter 1,
      Config.freeConditionHolds counter 2, !r.totalClear && Config.freeConditionHolds counter 3)

/-- Give the WQ a request when a condition has been met (R29). -/
def State.requestIf (s : State) (met : Bool) (f : FilterId) (cause : WashCause) : State :=
  if met then s.request f cause else s

/-- The TE evaluates a filter in SERVICE on a valid answer; a totalizer answer leaves turbidity and headloss as they
are (R25, R27, R28, R29). -/
def State.evalTriggers (s : State) (f : FilterId) (isInput : Bool) : State :=
  if s.inService f then
    let settings := (s.filterConfig f).settings
    let h := conditionsHold settings s.free (s.filter f)
    let t := s.trig f
    let turb := if isInput then t.turbidity.eval s.now h.1 s.plant.turbidityConfirm else (t.turbidity, false)
    let head := if isInput then t.headloss.eval s.now h.2.1 s.plant.headlossConfirm else (t.headloss, false)
    let runMet := h.2.2.1 && !t.runFired
    let volMet := h.2.2.2 && !t.volumeFired
    let s := s.setTrig f ⟨turb.1, head.1, h.2.2.1, h.2.2.2⟩
    let s := { s with free := if settings.isNone then s.free + 1 else s.free }
    let s := s.requestIf turb.2 f .turbidity
    let s := s.requestIf head.2 f .headloss
    let s := s.requestIf runMet f .runtime
    s.requestIf volMet f .volume
  else s

/-! ### Accounting (R20) -/

/-- The run seconds of a filter in SERVICE advance by one, saturating at 2^32-1. -/
def FilterRecord.runOn (r : FilterRecord) : FilterRecord :=
  if r.state = .service then
    { r with runSeconds := if r.runSeconds < 4294967295 then r.runSeconds + 1 else 4294967295 }
  else r

/-- The run seconds of every filter in SERVICE advance. -/
def State.advanceRunSeconds (s : State) : State := { s with ft := { records := mapEach FilterRecord.runOn s.ft.records } }

end Sys2Proof.Machine
end

