-- ==== Sys2Proof/Machine/Records.lean ====
section
/-! DEFINITION. The Wash Record List (WR), fault snapshots, the commitments of the RA, the shed list of the AU,
and the freeing of a context (R63, R73, R92, R106, R138, R139, R176). -/

namespace Sys2Proof.Machine

/-- Act on the context in a slot; a FREE slot leaves the state as it is. -/
def State.withCtx (s : State) (c : Slot) (g : WashContext → State) : State :=
  match s.ctx c with
  | some w => g w
  | none => s

/-! ### Fault snapshots (R138, R139) -/

/-- The step items as they stand. -/
def State.captureStep (s : State) (w : WashContext) : StepItems := ⟨w.stepIndex, w.kind?, w.phase, s.now - w.stepStart⟩

/-- The valve and header items as they stand. -/
def State.captureValves (s : State) (c : Slot) (w : WashContext) : ValveItems :=
  ⟨(s.fnode w.filter).image, (s.filter w.filter).view, s.headersHeld c⟩

/-- A snapshot, when both parts of it have been captured. -/
def snapshotOf : Option StepItems → Option ValveItems → Option Snapshot
  | some step, some valves => some ⟨step, valves⟩
  | _, _ => none

/-! ### Records (R176) -/

/-- The record of a context's wash, its end time being now. -/
def State.recordOf (s : State) (w : WashContext) (outcome : WashOutcome) (cause second : Option FaultCause)
    (snapshot : Option Snapshot) : WashRecord where
  sequence := s.wr.nextSequence
  filter := w.filter
  profile := w.profile.number
  cls := w.cls
  causes := w.causes
  admissionTime := w.admissionTime
  endTime := s.now
  outcome := outcome
  reduced := w.reduced
  secondAttempt := w.secondAttempt
  waterPlanned := w.profile.waterDemand
  cause := cause
  secondCause := second
  ripenResult := w.ripenResult
  snapshot := snapshot

/-- Write a record: it becomes the newest, the oldest of 32 is discarded, and the next sequence number advances. -/
def State.writeRecord (s : State) (r : WashRecord) : State :=
  { s with wr := { records := (r :: s.wr.records).take 32, nextSequence := s.wr.nextSequence + 1 } }

/-- Write the record of a context's wash. -/
def State.recordWash (s : State) (w : WashContext) (outcome : WashOutcome) (cause second : Option FaultCause)
    (snapshot : Option Snapshot) : State :=
  s.writeRecord (s.recordOf w outcome cause second snapshot)

/-! ### Commitments (R106) -/

/-- Change a context's remaining commitments and the totals by the same amounts. -/
def State.commitDelta (s : State) (c : Slot) (w : WashContext) (tank basin : Int) : State :=
  let s := s.setCtx c (some { w with
    tankRemaining := w.tankRemaining + tank
    basinRemaining := w.basinRemaining + basin })
  { s with ra := { s.ra with
      tankTotal := s.ra.tankTotal + tank
      basinTotal := s.ra.basinTotal + basin } }

/-- Release what remains of a context's commitments. -/
def State.releaseCommitments (s : State) (c : Slot) : State :=
  s.withCtx c fun w => s.commitDelta c w (-w.tankRemaining) (-w.basinRemaining)

/-- A step ends: its planned volumes leave the context's remaining commitments and the totals (R82). -/
def State.subtractStep (s : State) (c : Slot) : State :=
  s.withCtx c fun w =>
    match w.planned? with
    | some p => s.commitDelta c w (-(p.water : Int)) (-(p.waste : Int))
    | none => s

/-! ### Shed list and freeing -/

/-- A slot leaves the shed list (R63). -/
def State.shedRemove (s : State) (c : Slot) : State :=
  { s with au := { s.au with shed := s.au.shed.filter fun x => x != c } }

/-- A slot joins the shed list (R63). -/
def State.shedAdd (s : State) (c : Slot) : State :=
  if c ∈ s.au.shed then s else { s with au := { s.au with shed := s.au.shed ++ [c] } }

/-- A context becomes FREE: it holds nothing, stands in no wait list and has the values of R73 (R92). -/
def State.freeSlot (s : State) (c : Slot) : State :=
  ((((s.leaveWaits c).dropHolding c .air).dropHolding c .wash).dropHolding c .ftw).setCtx c none

end Sys2Proof.Machine
end

