-- ==== Sys2Proof/Machine/Sequencer.lean ====
section
/-! DEFINITION. The Step Sequencer (SS) and the Resource Arbiter (RA) at work on a wash: exit decisions (R126 to
R128), header requests and grants (R92 to R96), steps and phases (R76 to R83), supplies (R98 to R101), flow
(R103 to R105), holding release (R97). -/

namespace Sys2Proof.Machine

/-! ### Patterns and supplies -/

/-- The SS writes a pattern into a filter's output image and sets the commanded pattern to it (R79, R128). -/
def State.writePattern (s : State) (f : FilterId) (p : Pattern) : State :=
  (s.writeImage f p.image).modFilter f fun r => { r with commanded := some p }

/-- The RA stops a pair and the context's supply field for it becomes STOPPED (R98). -/
def State.stopSupply (s : State) (c : Slot) (p : SupplyPair) : State :=
  (s.writeStop p).modCtx c fun w =>
    { w.setSupply p .stopped with setpoint := if p = .pumps then 0 else w.setpoint }

/-- The RA stops the supplies of the headers a context holds (R98). -/
def State.stopHeld (s : State) (c : Slot) : State :=
  let s := if s.holds c .air then s.stopSupply c .blowers else s
  if s.holds c .wash then s.stopSupply c .pumps else s

/-! ### Exit decisions -/

/-- The exit kind by progress mark and cause (R127). -/
def exitKindFor (p : Progress) (cause : Option FaultCause) : ExitKind :=
  if cause = some .trip then .safeExit
  else
    match p with
    | .none => .returnExit
    | .airwaterBegun => .safeExit
    | .washed => .lateExit

/-- The six acts of an exit decision, for a context and an exit kind (R128, R139). -/
def State.decideExitAs (s : State) (c : Slot) (w : WashContext) (kind : ExitKind) (cause : Option FaultCause)
    (valve : Option Valve) : State :=
  let s1 := s.setCtx c (some { w with
    exitKind := some kind
    cause := cause
    secondCause := none
    causeValve := valve
    stepItems := some (s.captureStep w)
    valveItems := if kind = .safeExit then some (s.captureValves c w) else none
    windowStart := none
    lowFlowStart := none })
  let s2 := (s1.leaveWaits c).stopHeld c
  let s3 := s2.modCtx c fun w => { w with state := .exiting, exitStart := some s.now, answered := false }
  s3.writePattern w.filter kind.pattern

/-- An exit of the context in a slot is decided; a context that is not ACTIVE is left as it is (R126, R135). -/
def State.decideExit (s : State) (c : Slot) (cause : Option FaultCause) (valve : Option Valve) : State :=
  s.withCtx c fun w =>
    if w.state = .active then s.decideExitAs c w (exitKindFor w.progress cause) cause valve else s

/-! ### Steps: ACQUIRE and SETTING -/

/-- A step of this kind disturbs the bed when it enters SETTING (R75). -/
def StepKind.disturbs : StepKind → Bool
  | .air | .airwater | .water => true
  | _ => false

/-- The progress mark after a step of the given kind enters SETTING (R75). -/
def progressAtSetting (p : Progress) (k : Option StepKind) : Progress :=
  if p = .none && (match k with
    | some k => k.disturbs
    | none => false) then .airwaterBegun
  else p

/-- A context enters SETTING: its step's pattern is written (R79). -/
def State.enterSetting (s : State) (c : Slot) : State :=
  s.withCtx c fun w =>
    (s.setCtx c (some { w with
      phase := .setting
      phaseStart := s.now
      answered := false
      progress := progressAtSetting w.progress w.kind? })).writePattern w.filter w.pattern

/-- A grant: the context leaves the header's wait list and takes a HELD holding of it (R95), at the end of the header's
holdings, an order that no rule gives (log 45). -/
def State.addHolding (s : State) (c : Slot) (h : Header) : State :=
  s.setHeader h
    { holdings := (s.header h).holdings ++ [⟨c, false⟩]
      waiting := (s.header h).waiting.filter fun x => x != c }

/-- A context joins a header's wait list at the tail (R94). -/
def State.addWaiter (s : State) (c : Slot) (h : Header) : State :=
  s.setHeader h { s.header h with waiting := (s.header h).waiting ++ [c] }

/-- A header has room (R92). -/
def State.hasRoom (s : State) (h : Header) : Bool := (s.header h).holdings.length < h.capacity

/-- The supply node of a header is LOST; the FTW channel has none (R94). -/
def State.supplyNodeLost (s : State) (h : Header) : Bool :=
  match h.node? with
  | some n => s.isLost n
  | none => false

/-- A context in ACQUIRE asks for the headers of the list that it does not hold, one at a time, and enters SETTING when
it holds them all (R78, R94). -/
def State.tryHeaders (s : State) (c : Slot) : List Header → State
  | [] => s.enterSetting c
  | h :: hs =>
    if s.holds c h then s.tryHeaders c hs
    else if s.supplyNodeLost h then s.decideExit c (some .supplyLost) none
    else if s.hasRoom h then (s.addHolding c h).tryHeaders c hs
    else s.addWaiter c h

/-- A context in ACQUIRE goes on asking for the headers its step needs. -/
def State.acquire (s : State) (c : Slot) : State := s.withCtx c fun w => s.tryHeaders c w.needs

/-- A step begins at an index (R77). -/
def State.beginStep (s : State) (c : Slot) (i : Nat) : State :=
  (s.modCtx c fun w => { w with
    stepIndex := i
    phase := .acquire
    stepStart := s.now
    phaseStart := s.now
    fallbackUsed := false
    answered := false }).acquire c

/-- The RA grants a header to the head of its wait list, while it has room, at most `n` times (R95). -/
def State.grantOnward (s : State) (h : Header) : Nat → State
  | 0 => s
  | n + 1 =>
    if s.hasRoom h then
      match (s.header h).waiting with
      | [] => s
      | c :: _ => ((s.addHolding c h).acquire c).grantOnward h n
    else s

/-- A holding of a header has been removed: the RA grants onward (R95). -/
def State.grantFreed (s : State) (h : Header) : State := s.grantOnward h h.capacity

/-! ### Holding release (R97) -/

/-- The filter's latest valve view shows the inlet of a header CLOSED. -/
def State.inletClosed (s : State) (f : FilterId) (h : Header) : Bool := (s.filter f).view.get h.inlet = .closed

/-- The holder no longer needs a header: it is EXITING, or ACTIVE at a step that does not need it. -/
def WashContext.doneWith (w : WashContext) (h : Header) : Bool :=
  w.state = .exiting || w.state = .active && !(h ∈ w.needs)

/-- The release of one HELD holding, when both conditions hold; the supply is stopped and the header granted
onward. -/
def State.releaseHolding (s : State) (c : Slot) (h : Header) : State :=
  s.withCtx c fun w =>
    if s.holdsHeld c h && s.inletClosed w.filter h && w.doneWith h then
      let s := s.dropHolding c h
      let s := match h.pair? with
        | some p => s.stopSupply c p
        | none => s
      s.grantFreed h
    else s

/-- The releases of one valid input answer from the holder's filter. -/
def State.releaseHoldings (s : State) (c : Slot) : State :=
  ((s.releaseHolding c .air).releaseHolding c .wash).releaseHolding c .ftw

/-! ### TIMING, step ends, HOLDPOINT -/

/-- A context enters TIMING (R81, R105, R115). -/
def State.enterTiming (s : State) (c : Slot) : State :=
  s.modCtx c fun w => { w with
    phase := .timing
    phaseStart := s.now
    offCounts := PerValve.all false
    windowStart := none
    lowFlowStart := none
    sustainStart := none }

/-- A context enters HOLDPOINT (R83). -/
def State.enterHoldpoint (s : State) (c : Slot) : State :=
  (s.modCtx c fun w => { w with phase := .holdpoint, phaseStart := s.now }).stopHeld c

/-- The progress mark at a step end (R82). -/
def State.markWashed (s : State) (c : Slot) : State :=
  s.modCtx c fun w => { w with
    progress := if w.stepIndex = w.profile.lastWater then .washed else w.progress
    lowFlowStart := none }

/-- The step at a context's step index ends (R82). The RETURN pseudo-step has no end of this kind. -/
def State.endStep (s : State) (c : Slot) : State :=
  s.withCtx c fun w =>
    match w.planned? with
    | none => s
    | some p =>
      let s := (s.subtractStep c).markWashed c
      if p.step.holdPoint then s.enterHoldpoint c else s.beginStep c (w.stepIndex + 1)

/-! ### Supplies (R80, R99, R100, R101) -/

/-- The exit cause of a pair that cannot be started. -/
def startCause : SupplyPair → FaultCause
  | .blowers => .blowerStart
  | .pumps => .pumpStart

/-- The unit a start chooses: the duty unit, or else the other, passing over a flagged unit (R99). -/
def State.chooseUnit (s : State) (p : SupplyPair) : Option UnitId :=
  if !(s.unitFaults p).has (s.duty p) then some (s.duty p)
  else if !(s.unitFaults p).has (s.duty p).other then some (s.duty p).other
  else none

/-- A unit of a pair is written to run, the other to stop, and the supply becomes STARTING with it (R99, R100). -/
def State.startUnit (s : State) (c : Slot) (p : SupplyPair) (u : UnitId) (tried : UnitSet) : State :=
  (s.writeUnits p (UnitSet.only u)).modCtx c fun w => w.setSupply p (.starting u tried s.now)

/-- The supply of a pair cannot be started: it becomes STOPPED and an exit is decided (R100). -/
def State.startFailed (s : State) (c : Slot) (p : SupplyPair) : State :=
  ((s.writeUnits p ⟨false, false⟩).modCtx c fun w => w.setSupply p .stopped).decideExit c (some (startCause p)) none

/-- The RA takes one supply of a context that has entered STARTING; one that is not STOPPED is left (R99). -/
def State.startSupply (s : State) (c : Slot) (p : SupplyPair) : State :=
  s.withCtx c fun w =>
    if w.state = .active && w.supply p = .stopped then
      match s.chooseUnit p with
      | some u => s.startUnit c p u (UnitSet.only u)
      | none => s.decideExit c (some (startCause p)) none
    else s

/-- A supply is RUNNING. -/
def SupplyState.isRunning : SupplyState → Bool
  | .running _ _ => true
  | _ => false

/-- The pairs a context's step needs. -/
def WashContext.pairs (w : WashContext) : List SupplyPair := w.needs.filterMap Header.pair?

/-- The RA writes the wash flow setpoint in node 21's image. -/
def State.writeSetpoint (s : State) (n : Nat) : State := s.writePumps { s.gbm.washNode.image with setpoint := n }

/-- The flow target of the step at a context's step index. -/
def WashContext.flowTarget (w : WashContext) : Nat :=
  match w.planned? with
  | some p => p.step.flowTarget
  | none => 0

/-- The fallback flow of the step at a context's step index. -/
def WashContext.fallbackFlow (w : WashContext) : Nat :=
  match w.planned? with
  | some p => p.step.fallbackFlow
  | none => 0

/-- A context enters RAMPING: the flow target becomes the setpoint and the window starts (R81, R103). -/
def State.enterRamping (s : State) (c : Slot) : State :=
  s.withCtx c fun w =>
    (s.writeSetpoint w.flowTarget).setCtx c (some { w with
      phase := .ramping
      phaseStart := s.now
      setpoint := w.flowTarget
      windowStart := some s.now })

/-- STARTING is left when every supply the step needs is RUNNING (R80). -/
def State.checkStarted (s : State) (c : Slot) : State :=
  s.withCtx c fun w =>
    if w.state = .active && w.phase = .starting && w.pairs.all fun p => (w.supply p).isRunning then
      if w.kind? = some .air then s.enterTiming c else s.enterRamping c
    else s

/-- A context enters STARTING: each supply the step needs is taken, the blowers first (R80, R99; log 20). -/
def State.enterStarting (s : State) (c : Slot) : State :=
  s.withCtx c fun w =>
    let s := s.setCtx c (some { w with phase := .starting, phaseStart := s.now })
    (w.pairs.foldl (fun s p => s.startSupply c p) s).checkStarted c

/-- A unit is flagged and EQUIPMENT is raised with filter 0 (R100, R101). -/
def State.failUnit (s : State) (p : SupplyPair) (u : UnitId) : State := (s.setUnitFault p u true).raise .equipment 0

/-- The start confirm time of a unit has run out (R100). -/
def State.startExpired (s : State) (c : Slot) (p : SupplyPair) (u : UnitId) (tried : UnitSet) : State :=
  let s := s.failUnit p u
  if !tried.has u.other && !(s.unitFaults p).has u.other then s.startUnit c p u.other ⟨true, true⟩
  else s.startFailed c p

/-- A run loss: a changeover to the other unit, or an exit (R101). -/
def State.runLoss (s : State) (c : Slot) (p : SupplyPair) (u : UnitId) : State :=
  let s := s.failUnit p u
  if !(s.unitFaults p).has u.other then s.startUnit c p u.other ⟨true, true⟩ else s.startFailed c p

/-- A valid answer of a pair's node for the context in a slot: start confirmation and the run-loss watch (R100,
R101). -/
def State.superviseSupply (s : State) (c : Slot) (p : SupplyPair) : State :=
  s.withCtx c fun w =>
    match w.supply p with
    | .stopped => s
    | .starting u _ _ =>
      if s.feedback p u then
        ((s.setDuty p u.other).setCtx c (some (w.setSupply p (.running u false)))).checkStarted c
      else s
    | .running u loss =>
      if s.feedback p u then s.setCtx c (some (w.setSupply p (.running u false)))
      else if loss then s.runLoss c p u
      else s.setCtx c (some (w.setSupply p (.running u true)))

/-! ### Flow (R103, R104, R105) -/

/-- A context is ACTIVE in the given phase. -/
def WashContext.activeIn (w : WashContext) (p : Phase) : Bool := w.state = .active && w.phase = p

/-- The ramp watch on a valid answer from node 21 (R103). -/
def State.watchRamp (s : State) (c : Slot) : State :=
  s.withCtx c fun w =>
    if w.activeIn .ramping && flowWithin s.headerFlow w.setpoint s.plant.flowTolerance then s.enterTiming c else s

/-- The step at a context's step index uses wash water. -/
def WashContext.usesWater (w : WashContext) : Bool :=
  match w.kind? with
  | some k => k.isWater
  | none => false

/-- The low-flow watch on a valid answer from node 21 (R105). -/
def State.watchLowFlow (s : State) (c : Slot) : State :=
  s.withCtx c fun w =>
    if w.activeIn .timing && w.usesWater then
      if flowBelow s.headerFlow w.setpoint s.plant.flowTolerance then
        match w.lowFlowStart with
        | none => s.setCtx c (some { w with lowFlowStart := some s.now })
        | some t => if s.expired t s.plant.rampWindow then s.decideExit c (some .flowLow) none else s
      else s.setCtx c (some { w with lowFlowStart := none })
    else s

/-- A valid answer from node 21 for one context; the flow is judged by the phase the answer finds (log 14). -/
def State.pumpAnswerFor (s : State) (c : Slot) : State :=
  s.withCtx c fun w =>
    let s := s.superviseSupply c .pumps
    if w.phase = .ramping then s.watchRamp c
    else if w.phase = .timing then s.watchLowFlow c
    else s

/-- The ramp window has run out: the fallback, or an exit with FLOW-LOW (R103, R104). -/
def State.rampExpired (s : State) (c : Slot) : State :=
  s.withCtx c fun w =>
    if w.fallbackFlow != 0 && !w.fallbackUsed then
      (s.writeSetpoint w.fallbackFlow).setCtx c (some { w with
        setpoint := w.fallbackFlow
        windowStart := some s.now
        fallbackUsed := true
        reduced := true })
    else s.decideExit c (some .flowLow) none

/-! ### Orphans (R109, R110, R111) -/

/-- A context has some holding. -/
def State.holdsAny (s : State) (c : Slot) : Bool := allHeaders.any fun h => s.holds c h

/-- An ORPHAN context that holds no header is freed (R111, R12). -/
def State.freeOrphan (s : State) (c : Slot) : State :=
  s.withCtx c fun w =>
    let s := (s.releaseCommitments c).freeSlot c
    if (s.filter w.filter).state = .unknown && !s.isLost (.filter w.filter) then
      s.modFilter w.filter fun r => { r with classifyDue := true }
    else s

/-- Free the context in a slot if it is ORPHAN and holds no header (R111). -/
def State.freeIfBare (s : State) (c : Slot) : State :=
  if s.ctxIs c .orphan && !s.holdsAny c then s.freeOrphan c else s

/-- A context becomes ORPHAN: it leaves any wait list, its holdings become ORPHAN and its timers stop (R109). -/
def State.makeOrphan (s : State) (c : Slot) : State :=
  ((s.leaveWaits c).orphanHoldings c).modCtx c fun w =>
    { w with state := .orphan, exitStart := none, windowStart := none, lowFlowStart := none }

/-- The loss of the filter's node, or its LOCAL switch, orphans the wash of the context in a slot (R109, R137, R63).
The filter has left WASH. An EXITING context takes the event as its second cause, in place of any TRIP there (R126); an
ACTIVE one has no cause of exit, and the event stands in its record only (log 18). -/
def State.orphan (s : State) (c : Slot) (cause : FaultCause) (outcome : WashOutcome) : State :=
  s.withCtx c fun w =>
    let valves := s.captureValves c w
    let exiting := w.state = .exiting
    let step := if exiting then w.stepItems else some (s.captureStep w)
    let first := if exiting then w.cause else some cause
    let second := if exiting then some cause else none
    let s := ((s.stopHeld c).modCtx c fun w => { w with secondCause := second }).makeOrphan c
    let s := (s.recordWash w outcome first second (snapshotOf step (some valves))).raise .washExit (filterNumber w.filter)
    (s.shedRemove c).freeIfBare c

/-- The supply of a header reports stopped: its node answers, and its latest valid answer shows both units inactive; the
FTW channel has no supply (R110). -/
def State.supplyQuiet (s : State) : Header → Bool
  | .air => !s.isLost .airNode && s.gbm.airNode.input.isSome && !s.feedback .blowers .a && !s.feedback .blowers .b
  | .wash => !s.isLost .washWater && s.gbm.washNode.input.isSome && !s.feedback .pumps .a && !s.feedback .pumps .b
  | .ftw => true

/-- The release of one ORPHAN holding on its conditions (R110; log 15 for the view after a loss). -/
def State.releaseOrphanHolding (s : State) (c : Slot) (h : Header) : State :=
  s.withCtx c fun w =>
    if s.holdsOrphan c h && s.inletClosed w.filter h && !(s.filter w.filter).viewStale && s.supplyQuiet h then
      (s.dropHolding c h).grantFreed h
    else s

/-- The tests of R110 for the context in a slot, and its freeing when the last holding has gone (R111). -/
def State.testOrphan (s : State) (c : Slot) : State :=
  if s.ctxIs c .orphan then
    (((s.releaseOrphanHolding c .air).releaseOrphanHolding c .wash).releaseOrphanHolding c .ftw).freeIfBare c
  else s

/-! ### Loss of a supply node (R108) -/

/-- The slots of a header's holders. -/
def State.holders (s : State) (h : Header) : List Slot := (s.header h).holdings.map fun x => x.slot

/-- LOST of node 21 or 22: the supply is stopped, and ACTIVE holders and waiters exit with SUPPLY-LOST; the holders
first, then the waiters in order (log 37). -/
def State.supplyLost (s : State) (p : SupplyPair) : State :=
  let holders := s.holders (pairHeader p)
  let waiters := (s.header (pairHeader p)).waiting
  let s := s.writeStop p
  let s := holders.foldl (fun s c => s.stopSupply c p) s
  (holders ++ waiters).foldl (fun s c => s.decideExit c (some .supplyLost) none) s

end Sys2Proof.Machine
end

