-- ==== Sys2Proof/Machine/Washes.lean ====
section
/-! DEFINITION. The Step Sequencer on the answers of a wash's filter, and the ends of a wash: pattern confirmation
(R79, R130), the watches of TIMING (R81, R82, R115), completion (R87), the ends of exits (R131 to R133), conversion
(R134), failure (R136). -/

namespace Sys2Proof.Machine

/-! ### The filter's return to the FT (R19) -/

/-- The FT takes a filter to SERVICE at the end of a wash, with the accounting the end gives it. -/
def State.returnToService (s : State) (f : FilterId) (g : FilterRecord → FilterRecord) : State :=
  (s.modFilter f fun r => g { r with commanded := some .service }).changeState f .service

/-- The accounting of a completed wash (R87, R19). -/
def freshlyWashed (r : FilterRecord) : FilterRecord :=
  { r with runSeconds := 0, totalClear := true, shortRipen := false }

/-- The FT takes a filter to HELD DIRTY at the end of a SAFE-EXIT (R132). -/
def State.returnHeld (s : State) (f : FilterId) : State :=
  (s.modFilter f fun r => { r with commanded := some .isolated, held := some .dirty }).changeState f .held

/-! ### Completion (R87) -/

/-- The outcome of a completed wash (R87). -/
def completionOutcome (w : WashContext) : WashOutcome :=
  if w.ripenResult = .unmet && !w.secondAttempt then .rewash
  else if w.reduced then .completeReduced
  else .complete

/-- The REWASH request and the rewash pending mark of an outcome REWASH (R38, R87). -/
def State.requestRewash (s : State) (f : FilterId) (outcome : WashOutcome) : State :=
  if outcome = .rewash then (s.request f .rewash).modFilter f fun r => { r with rewashPending := true } else s

/-- The wash of the context in a slot completes (R87). -/
def State.completeWash (s : State) (c : Slot) : State :=
  s.withCtx c fun w =>
    let s := (s.releaseCommitments c).returnToService w.filter freshlyWashed
    let s := (s.shedRemove c).recordWash w (completionOutcome w) w.cause w.secondCause none
    let s := (s.requestRewash w.filter (completionOutcome w)).raise .washEnd (filterNumber w.filter)
    s.freeSlot c

/-! ### Ends of an exit -/

/-- The entry a context holds for its filter (R37). -/
def WashContext.entry (w : WashContext) : QueueEntry := ⟨w.filter, w.cls, w.causes, w.entryTime⟩

/-- A RETURN-EXIT ends (R131). -/
def State.endReturnExit (s : State) (c : Slot) : State :=
  s.withCtx c fun w =>
    let s := (s.releaseCommitments c).returnToService w.filter fun r =>
      { r with rewashPending := w.secondAttempt || r.rewashPending }
    let s := ((s.shedRemove c).reinsert w.entry).recordWash w .returned w.cause w.secondCause none
    (s.raise .washExit (filterNumber w.filter)).freeSlot c

/-- A SAFE-EXIT ends; without a cause of exit it is the ineffective end, whose record carries no snapshot (R120,
R132). -/
def State.endSafeExit (s : State) (c : Slot) : State :=
  s.withCtx c fun w =>
    let s := ((s.releaseCommitments c).returnHeld w.filter).shedRemove c
    let s :=
      if w.cause.isNone then s.recordWash w .ineffective none w.secondCause none
      else s.recordWash w .heldExit w.cause w.secondCause (snapshotOf w.stepItems w.valveItems)
    (s.raise .washExit (filterNumber w.filter)).freeSlot c

/-- A LATE-EXIT ends (R133). -/
def State.endLateExit (s : State) (c : Slot) : State :=
  s.withCtx c fun w =>
    let s := (s.releaseCommitments c).returnToService w.filter fun r => { r with shortRipen := true }
    let s := (s.shedRemove c).recordWash w .shortRipen w.cause w.secondCause none
    (s.raise .washExit (filterNumber w.filter)).freeSlot c

/-- The end of an exit by its kind (R130). -/
def State.endExit (s : State) (c : Slot) : ExitKind → State
  | .returnExit => s.endReturnExit c
  | .safeExit => s.endSafeExit c
  | .lateExit => s.endLateExit c

/-- A RETURN-EXIT or LATE-EXIT is converted to SAFE-EXIT by a trip (R134, R139, R63; log 19). -/
def State.convertExit (s : State) (c : Slot) : State :=
  s.withCtx c fun w =>
    let s1 := s.setCtx c (some { w with
      exitKind := some .safeExit
      cause := if w.cause.isNone then some .trip else w.cause
      secondCause := if w.cause.isNone then w.secondCause else some .trip
      valveItems := some (s.captureValves c w)
      exitStart := some s.now
      answered := false })
    (s1.writePattern w.filter .isolated).shedRemove c

/-- An exit fails: its travel timer has run out before the exit pattern was confirmed (R136). -/
def State.failExit (s : State) (c : Slot) : State :=
  s.withCtx c fun w =>
    let pattern := match w.exitKind with
      | some k => k.pattern
      | none => .isolated
    let valve := valveNamed pattern w.answered (s.filter w.filter).view
    let valves := s.captureValves c w
    let s := s.modFilter w.filter fun r =>
      { r with fault := some ⟨.valveTravel, some valve⟩, commanded := some pattern }
    let s := (s.changeState w.filter .fault).raise .fault (filterNumber w.filter)
    let s := s.recordWash w .faulted w.cause (some .valveTravel) (snapshotOf w.stepItems (some valves))
    let s := s.raise .washExit (filterNumber w.filter)
    let s := s.modCtx c fun w => { w with secondCause := some .valveTravel }
    (s.makeOrphan c).freeIfBare c |>.shedRemove c

/-! ### Answers in SETTING -/

/-- The step's pattern has been confirmed (R79, R87). -/
def State.stepConfirmed (s : State) (c : Slot) : State :=
  s.withCtx c fun w =>
    match w.kind? with
    | none => s.completeWash c
    | some .air | some .airwater | some .water => s.enterStarting c
    | some .drain | some .settle | some .refill | some .ripen => s.enterTiming c

/-! ### The watches of TIMING -/

/-- The level target of the step at a context's step index. -/
def WashContext.levelTarget (w : WashContext) : Nat :=
  match w.planned? with
  | some p => p.step.levelTarget
  | none => 0

/-- A level ends the step (R82). -/
def levelEnds (w : WashContext) (level : Nat) : Bool :=
  match w.kind? with
  | some .drain => level ≤ w.levelTarget
  | some .refill => w.levelTarget ≤ level
  | _ => false

/-- The turbidity is at or below the filter's return limit, read from the working configuration (R115). A filter in a wash
has a written configuration (log 10). -/
def State.ripened (s : State) (f : FilterId) : Bool :=
  match (s.filterConfig f).settings with
  | some c => (s.filter f).turbidity.toNat ≤ c.returnLimit
  | none => false

/-- The good end of a RIPEN step (R116). -/
def State.ripenGood (s : State) (c : Slot) : State :=
  (s.modCtx c fun w => { w with ripenResult := .good }).endStep c

/-- The ripen watch (R115). -/
def State.watchRipen (s : State) (c : Slot) : State :=
  s.withCtx c fun w =>
    if s.ripened w.filter then
      match w.sustainStart with
      | none => s.setCtx c (some { w with sustainStart := some s.now })
      | some t => if s.expired t s.plant.ripenSustain then s.ripenGood c else s
    else s.setCtx c (some { w with sustainStart := none })

/-- A valid input answer in TIMING: the level, then the drift watch, then the ripen watch (R153; log 14). -/
def State.timingAnswer (s : State) (c : Slot) : State :=
  s.withCtx c fun w =>
    if levelEnds w (s.filter w.filter).level.toNat then s.endStep c
    else
      let out := stepOffCounts w.pattern (s.filter w.filter).view w.offCounts
      let s := s.setCtx c (some { w with offCounts := out.1 })
      match out.2 with
      | some v => s.decideExit c (some .valveDrift) (some v)
      | none => if w.kind? = some .ripen then s.watchRipen c else s

/-- A valid input answer in SETTING: on confirmation the step goes on, and an answer that has entered TIMING is tested there
as its first (R79, R82, R115). -/
def State.settingAnswer (s : State) (c : Slot) : State :=
  s.withCtx c fun w =>
    if confirmed w.pattern (s.filter w.filter).view then
      match w.kind? with
      | some .drain | some .settle | some .refill | some .ripen => (s.stepConfirmed c).timingAnswer c
      | _ => s.stepConfirmed c
    else s

/-- The SS takes a valid input answer for an ACTIVE context; a trip latched on it decides the exit first (R85,
R153). The ISOLATED pattern written then is tested from the next answer on (log 41). -/
def State.activeAnswer (s : State) (c : Slot) (tripped : Bool) : State :=
  if tripped then s.decideExit c (some .trip) none
  else
    s.withCtx c fun w =>
      match w.phase with
      | .setting => s.settingAnswer c
      | .timing => s.timingAnswer c
      | _ => s

/-- The SS takes a valid input answer for an EXITING context (R130, R134). An answer that converts the exit is not tested for
the ISOLATED pattern it writes (log 41). -/
def State.exitAnswer (s : State) (c : Slot) (tripped : Bool) : State :=
  s.withCtx c fun w =>
    match w.exitKind with
    | none => s
    | some k =>
      if tripped && k != .safeExit then s.convertExit c
      else if confirmed k.pattern (s.filter w.filter).view then s.endExit c k
      else s

/-- The SS takes a valid input answer from the filter of the context in a slot (R153). -/
def State.sequencerAnswer (s : State) (c : Slot) (tripped : Bool) : State :=
  s.withCtx c fun w =>
    let s := s.setCtx c (some { w with answered := true })
    match w.state with
    | .active => s.activeAnswer c tripped
    | .exiting => s.exitAnswer c tripped
    | .orphan => s

/-! ### The maximum-duration end of RIPEN (R117, R120) -/

/-- A RIPEN step has reached its maximum duration: the ripen result is UNMET, and RETURN or the ineffective end
follows. -/
def State.ripenUnmet (s : State) (c : Slot) : State :=
  let s := s.modCtx c fun w => { w with ripenResult := .unmet }
  s.withCtx c fun w =>
    if w.secondAttempt then
      let s := (s.subtractStep c).markWashed c
      s.withCtx c fun w => s.decideExitAs c w .safeExit none none
    else s.endStep c

end Sys2Proof.Machine
end

