-- ==== Sys2Proof/Machine/Admission.lean ====
section
/-! DEFINITION. The Admission Unit (AU) at a scan completion: the isolation pass (R41), shedding (R61 to R63), the
admission check (R51 to R58), and the admission it shares with START (R56). -/

namespace Sys2Proof.Machine

/-! ### Isolation pass (R41) -/

/-- The isolate-on-breakthrough flag of a filter; an unwritten configuration has none, and its answer is free (log 10). -/
def isolateFlag (settings : Option FilterSettings) (counter : Nat) : Bool :=
  match settings with
  | some c => c.isolate
  | none => Config.freeConditionHolds counter 4

/-- The pass considers an entry, its flag apart. -/
def State.passConsiders (s : State) (e : QueueEntry) : Bool :=
  e.cls = .breakthrough && s.inService e.filter && (s.filter e.filter).pending.isNone

/-- Enough filters remain in SERVICE after one more isolation: S - k - 1 is at least R. -/
def State.roomToIsolate (s : State) : Bool := s.au.required + s.isolatingCount + 1 ≤ s.serviceCount

/-- A free value has been drawn, when one was needed. -/
def State.drawIf (s : State) (b : Bool) : State := if b then { s with free := s.free + 1 } else s

/-- The pass at one entry. -/
def State.passEntry (s : State) (e : QueueEntry) : State :=
  if s.passConsiders e then
    let settings := (s.filterConfig e.filter).settings
    let t := s.drawIf settings.isNone
    if isolateFlag settings s.free && s.roomToIsolate then t.startMovement e.filter false else t
  else s

/-- The isolation pass. -/
def State.isolationPass (s : State) : State := s.wq.entries.foldl State.passEntry s

/-! ### Shedding (R61, R62) -/

/-- The shortfall, 0 when it is 0 or less. -/
def State.shortfall (s : State) : Nat := s.au.required - s.serviceCount - s.au.shed.length

/-- An ACTIVE context that is not in the shed list. -/
def State.shedable (s : State) (c : Slot) : Bool := s.ctxIs c .active && !(c ∈ s.au.shed)

/-- Time spent in the present phase. -/
def State.phaseElapsed (s : State) (c : Slot) : Nat :=
  match s.ctx c with
  | some w => s.since w.phaseStart
  | none => 0

/-- The admission time of a context. -/
def State.admittedAt (s : State) (c : Slot) : Nat :=
  match s.ctx c with
  | some w => w.admissionTime.toNat
  | none => 0

/-- A context ripens: its step is RIPEN in TIMING. -/
def State.ripening (s : State) (c : Slot) : Bool :=
  match s.ctx c with
  | some w => w.kind? = some .ripen && w.phase = .timing
  | none => false

/-- A context has progress mark NONE. -/
def State.undisturbed (s : State) (c : Slot) : Bool :=
  match s.ctx c with
  | some w => w.progress = .none
  | none => false

/-- Put a slot in its place, before the first slot it precedes. -/
def insertSlot (before : Slot → Slot → Bool) (c : Slot) : List Slot → List Slot
  | [] => [c]
  | d :: ds => if before c d then c :: d :: ds else d :: insertSlot before c ds

/-- Order a list of slots. -/
def sortSlots (before : Slot → Slot → Bool) : List Slot → List Slot
  | [] => []
  | c :: cs => insertSlot before c (sortSlots before cs)

/-- The ripening group: longest in TIMING first, then the lower slot. -/
def State.ripeningGroup (s : State) : List Slot :=
  sortSlots (fun c d => s.phaseElapsed d < s.phaseElapsed c || s.phaseElapsed d = s.phaseElapsed c && c < d)
    (allSlots.filter fun c => s.shedable c && s.ripening c)

/-- The group not yet disturbed: latest admission first, then the higher slot. -/
def State.undisturbedGroup (s : State) : List Slot :=
  sortSlots (fun c d => s.admittedAt d < s.admittedAt c || s.admittedAt d = s.admittedAt c && d < c)
    (allSlots.filter fun c => s.shedable c && !s.ripening c && s.undisturbed c)

/-- The candidates in the order of R62, each with the exit kind of its group. -/
def State.shedCandidates (s : State) : List (Slot × ExitKind) :=
  (s.ripeningGroup.map fun c => (c, .lateExit)) ++ s.undisturbedGroup.map fun c => (c, .returnExit)

/-- Shed one context: its slot joins the shed list and the SS exits it with no cause (R63). -/
def State.shedOne (s : State) (x : Slot × ExitKind) : State :=
  (s.shedAdd x.1).withCtx x.1 fun w => (s.shedAdd x.1).decideExitAs x.1 w x.2 none none

/-- Shedding at a scan completion. -/
def State.shedding (s : State) : State :=
  if s.au.breach then (s.shedCandidates.take s.shortfall).foldl State.shedOne s else s

/-! ### Admission (R56) -/

/-- The lowest-numbered FREE context. -/
def State.freeSlot? (s : State) : Option Slot := allSlots.find? fun c => (s.ctx c).isNone

/-- The entry a wash carries: the filter's own, or HOST now for a START without one (R56). -/
def State.admissionEntry (s : State) (f : FilterId) : QueueEntry :=
  match s.entry? f with
  | some e => e
  | none => ⟨f, .host, CauseSet.single .host, s.now⟩

/-- A context as admission leaves it (R56, R73, R93, R114, R119). -/
def newContext (f : FilterId) (e : QueueEntry) (copy : ProfileCopy) (now : Seconds) (secondAttempt : Bool) :
    WashContext where
  state := .active
  filter := f
  profile := copy
  cls := e.cls
  causes := e.causes
  entryTime := e.entryTime
  admissionTime := now
  stepIndex := 0
  phase := .acquire
  stepStart := now
  phaseStart := now
  progress := .none
  tankRemaining := copy.waterDemand
  basinRemaining := copy.wasteDemand
  offCounts := PerValve.all false
  reduced := false
  secondAttempt := secondAttempt
  exitKind := none
  cause := none
  secondCause := none
  causeValve := none
  airSupply := .stopped
  washSupply := .stopped
  setpoint := 0
  windowStart := none
  fallbackUsed := false
  lowFlowStart := none
  sustainStart := none
  ripenResult := .none
  exitStart := none
  answered := false
  stepItems := none
  valveItems := none

/-- The FT takes a filter to WASH (R19). -/
def State.takeToWash (s : State) (f : FilterId) : State :=
  (s.modFilter f fun r =>
    { r with
      held := none
      pending := none
      offCounts := PerValve.all false
      rewashPending := false }).changeState f .wash

/-- The RA commits a wash's volumes (R106). -/
def State.commit (s : State) (copy : ProfileCopy) : State :=
  { s with ra := { s.ra with
      tankTotal := s.ra.tankTotal + copy.waterDemand
      basinTotal := s.ra.basinTotal + copy.wasteDemand } }

/-- The AU notes an admission: the last admission time and the last check result (R56, R58). -/
def State.noteAdmission (s : State) (f : FilterId) : State :=
  { s with au := { s.au with lastAdmission := some s.now, lastCheck := .admitted f } }

/-- An admission into a FREE context with a profile (R56). -/
def State.admitFilter (s : State) (f : FilterId) (c : Slot) (number : Nat) (steps : List ProfileStep) : State :=
  let e := s.admissionEntry f
  let copy := copyProfile number s.plant.ftwRate steps
  let second := (s.filter f).rewashPending
  let s := ((s.removeEntry f).takeToWash f).commit copy
  let s := (s.setCtx c (some (newContext f e copy s.now second))).noteAdmission f
  (s.raise .washStart (filterNumber f)).beginStep c 0

/-! ### The admission check (R51 to R54, R58) -/

/-- Why the walk passes an entry over; none when the entry is to be admitted (R54). A filter whose configuration is unwritten
names no profile. -/
def State.passOver (s : State) (f : FilterId) : Option PassOver :=
  let r := s.filter f
  if !(r.state = .service || r.state = .held) then some .state
  else if r.trip.isSome then some .trip
  else if r.drift then some .drift
  else if s.isLost (.filter f) then some .node
  else
    match s.profileOf f with
    | none => some .profile
    | some p =>
      if !profileValid p.2 then some .profile
      else if !s.volumeTest p.2 then some .volume
      else none

/-- The first failing gate, in the order FLOOR, SLOTS, SPACING, SUPPLY. -/
def State.failingGate (s : State) : Option CheckResult :=
  if !s.floorGate then some .floor
  else if !s.slotGate then some .slots
  else if !s.spacingGate then some .spacing
  else if !s.supplyGate then some .supply
  else none

/-- The result of a walk that admits nothing (R54). -/
def State.walkResult (s : State) : CheckResult :=
  match s.wq.entries with
  | [] => .empty
  | e :: _ =>
    match s.passOver e.filter with
    | some r => .noneEligible e.filter r
    | none => .notRun

/-- Set the last check result. -/
def State.setCheck (s : State) (r : CheckResult) : State := { s with au := { s.au with lastCheck := r } }

/-- The walk: the first entry not passed over is admitted. -/
def State.walk (s : State) : State :=
  match s.wq.entries.find? fun e => (s.passOver e.filter).isNone with
  | none => s.setCheck s.walkResult
  | some e =>
    match s.profileOf e.filter, s.freeSlot? with
    | some p, some c => s.admitFilter e.filter c p.1 p.2
    | _, _ => s

/-- The admission check. -/
def State.admissionCheck (s : State) : State :=
  match s.failingGate with
  | some g => s.setCheck g
  | none => s.walk

/-- The AU at a scan completion (R50, R58). -/
def State.admissionUnit (s : State) : State :=
  match s.mc.mode with
  | .survey => s.setCheck .notRun
  | .setup => s.isolationPass.setCheck .notRun
  | .hold => s.isolationPass.shedding.setCheck .notRun
  | .auto => s.isolationPass.shedding.admissionCheck

end Sys2Proof.Machine
end

