-- ==== Sys2Proof/Machine/Bus.lean ====
section
/-! DEFINITION. The Gallery Bus Master (GBM): scans (R143, R144), polls and their codes (R145 to R148), misses, loss and
regain (R149 to R151), the change watch (R152), the handing on of answers (R153, R154) and scan completions, with the
threshold watch of the NU (R175) and the survey's end (R185). -/

namespace Sys2Proof.Machine

/-! ### Polls -/

/-- The first node of a scan (R143). -/
def State.firstNode (s : State) : NodeId :=
  match s.filterCount with
  | 0 => .washWater
  | _ + 1 => .filter 0

/-- The node polled after a node, none after node 23 (R143). -/
def State.nextNode (s : State) : NodeId → Option NodeId
  | .filter f =>
    if h : f.val + 1 < 20 then
      if f.val + 1 < s.filterCount then some (.filter ⟨f.val + 1, h⟩) else some .washWater
    else some .washWater
  | .washWater => some .airNode
  | .airNode => some .waste
  | .waste => none

/-- A write is permitted for a filter node (R146). -/
def State.writePermitted (s : State) (f : FilterId) : Bool :=
  s.mc.mode != .survey &&
    (match (s.filter f).state with
      | .service | .held | .wash | .fault => true
      | .unknown => (s.filter f).pending.isSome
      | .localCtl | .unused => false)

/-- A clear is permitted for a filter node (R146). -/
def State.clearPermitted (s : State) (f : FilterId) : Bool :=
  s.mc.mode != .survey &&
    (match (s.filter f).state with
      | .service | .held | .wash | .fault => true
      | .unknown | .localCtl | .unused => false)

/-- The code of a filter node's poll: the first of the four rules that applies (R146). -/
def State.filterCode (s : State) (f : FilterId) : PollCode :=
  if (s.fnode f).owed && s.writePermitted f then .writeIo
  else if (s.filter f).totalClear && s.clearPermitted f then .clearTotal
  else if s.gbm.cursor = some f && s.inService f && !(s.filter f).totalClear && s.mc.mode != .survey then .readTotal
  else .readIo

/-- The code of a node's poll (R146, R158). -/
def State.pollCode (s : State) : NodeId → PollCode
  | .filter f => s.filterCode f
  | .washWater => if s.gbm.washNode.owed && s.mc.mode != .survey then .writeIo else .readIo
  | .airNode => if s.gbm.airNode.owed && s.mc.mode != .survey then .writeIo else .readIo
  | .waste => .readIo

/-- A WRITE_IO carries the image as it stands, which is kept as the image sent (R148). -/
def State.markSent (s : State) (n : NodeId) (code : PollCode) : State :=
  if code = .writeIo then
    match n with
    | .filter f => s.setFnode f { s.fnode f with sent := some (s.fnode f).image }
    | .washWater =>
      { s with gbm := { s.gbm with washNode := { s.gbm.washNode with sent := some s.gbm.washNode.image } } }
    | .airNode => { s with gbm := { s.gbm with airNode := { s.gbm.airNode with sent := some s.gbm.airNode.image } } }
    | .waste => s
  else s

/-- Set where the scan stands. -/
def State.setPhase (s : State) (p : ScanPhase) : State := { s with gbm := { s.gbm with phase := p } }

/-- A node's poll is sent, and its answer awaited. -/
def State.sendPoll (s : State) (n : NodeId) : State :=
  let code := s.pollCode n
  ((s.setLink n { s.link n with lastCode := some code }).markSent n code).setPhase (.awaiting n code)

/-- The GBM starts a scan, and with it the scan period (R143). -/
def State.startScan (s : State) : State :=
  { s with
    gbm := { s.gbm with phase := .due s.firstNode, periodExpired := false, scanMissed := false }
    nu := { s.nu with
      tankWatch := { s.nu.tankWatch with answered := false }
      basinWatch := { s.nu.basinWatch with answered := false } } }

/-! ### Scan completion -/

/-- The next place of the totalizer cursor (R147). -/
def State.nextCursor (s : State) : Option FilterId :=
  match s.gbm.cursor with
  | none => none
  | some f =>
    if h : f.val + 1 < 20 then
      if f.val + 1 < s.filterCount then some ⟨f.val + 1, h⟩ else some 0
    else some 0

/-- Add one, stopping at 65 535 (R141). -/
def satIncr (n : Nat) : Nat := if n < 65535 then n + 1 else 65535

/-- The GBM's own steps at a scan completion (R143, R144, R147). -/
def State.countScan (s : State) : State :=
  { s with gbm := { s.gbm with
      scanCount := s.gbm.scanCount + 1
      scansWithMiss := if s.gbm.scanMissed then satIncr s.gbm.scansWithMiss else s.gbm.scansWithMiss
      overruns := if s.gbm.periodExpired then satIncr s.gbm.overruns else s.gbm.overruns
      cursor := s.nextCursor
      phase := .idle } }

/-- A volume has crossed a threshold between two answers; while the threshold has no value, whether one volume lies below it
and another, different one does not is free (R175; log 30). -/
def crossed (threshold : Option Nat) (freely : Bool) (w : VolumeWatch) (value : Nat) : Bool :=
  match w.previous with
  | some p =>
    w.answered &&
      (match threshold with
        | some t => decide (p < t) != decide (value < t)
        | none => freely && p != value)
  | none => false

/-- Raise VOLUME when a crossing has occurred. -/
def State.raiseIf (s : State) (b : Bool) (k : NoticeKind) : State := if b then s.raise k 0 else s

/-- The threshold watch of the NU (R175). -/
def State.watchVolumes (s : State) : State :=
  let tank := crossed s.plant.tankThreshold (Config.freeConditionHolds s.free 5) s.nu.tankWatch s.tankAvailable
  let basin := crossed s.plant.basinThreshold (Config.freeConditionHolds s.free 6) s.nu.basinWatch s.basinFree
  ((s.drawIf (s.plant.tankThreshold.isNone || s.plant.basinThreshold.isNone)).raiseIf tank .volume).raiseIf basin .volume

/-- The FT classifies one filter at the survey's end, from the latest input answer of the survey (R185, R23). -/
def State.surveyFilter (s : State) (f : FilterId) : State :=
  if f.val < s.filterCount && (s.filter f).surveyAnswered then
    match (s.fnode f).input, (s.link (.filter f)).status with
    | some i, some st => s.surveyOfOne f i.word (statusLocal st)
    | _, _ => s
  else s

/-- The RA asks for the image of a supply node whose latest answer shows a unit running (R93, R185). -/
def State.askImages (s : State) : State :=
  let s :=
    if s.feedback .pumps .a || s.feedback .pumps .b then
      { s with gbm := { s.gbm with washNode := { s.gbm.washNode with owed := true } } }
    else s
  if s.feedback .blowers .a || s.feedback .blowers .b then
    { s with gbm := { s.gbm with airNode := { s.gbm.airNode with owed := true } } }
  else s

/-- Set the part mode. -/
def State.setMode (s : State) (m : PartMode) : State := { s with mc := { s.mc with mode := m } }

/-- The survey ends (R185). -/
def State.endSurvey (s : State) : State :=
  ((allFilters.foldl State.surveyFilter s).askImages.evalFloorNow).setMode .hold

/-- The MC counts a scan completion toward the survey (R185). -/
def State.countSurvey (s : State) : State :=
  if s.mc.mode = .survey then
    let s := { s with mc := { s.mc with surveyProgress := s.mc.surveyProgress + 1 } }
    if 3 ≤ s.mc.surveyProgress then s.endSurvey else s
  else s

/-- A scan completes: the GBM's own items, then the AU, the NU and the MC; a scan that has overrun is followed at once by
the next (R143, R144; log 37). -/
def State.completeScan (s : State) : State :=
  let late := s.gbm.periodExpired
  let s := s.countScan.admissionUnit.watchVolumes.countSurvey
  if late then s.startScan else s

/-- The transaction of a node has ended: the next node's poll comes due, or the scan completes. -/
def State.endTransaction (s : State) (n : NodeId) : State :=
  match s.nextNode n with
  | some m => s.setPhase (.due m)
  | none => s.completeScan

/-! ### Loss and regain of a filter (R9, R10, R17) -/

/-- A filter's movement, held condition and fault are dropped and it goes to UNKNOWN (R9). -/
def State.toUnknown (s : State) (f : FilterId) : State :=
  (s.modFilter f fun r => { r with pending := none, held := none, fault := none }).changeState f .unknown

/-- The wash of a filter that has left WASH is orphaned (R109). -/
def State.orphanWash (s : State) (f : FilterId) (cause : FaultCause) (outcome : WashOutcome) : State :=
  match s.slotNaming f with
  | some c => s.orphan c cause outcome
  | none => s

/-- The view of a filter whose node is lost is older than the loss, and no classification is due (R9, R10, R110). -/
def State.markStale (s : State) (f : FilterId) : State :=
  s.modFilter f fun r => { r with classifyDue := false, viewStale := true }

/-- The FT on the LOST event of a filter node (R9, R12). -/
def State.filterLost (s : State) (f : FilterId) : State :=
  let s := s.markStale f
  match (s.filter f).state with
  | .service | .held | .localCtl => s.toUnknown f
  | .unknown => s.modFilter f fun r => { r with pending := none }
  | .fault => if (s.filter f).pending.isSome then s.toUnknown f else s
  | .wash => (s.toUnknown f).orphanWash f .nodeLost .orphaned
  | .unused => s

/-- The FT on a valid answer that shows the LOCAL switch active; during SURVEY the FT does not act on it (R17, R12). -/
def State.localSwitch (s : State) (f : FilterId) : State :=
  if s.mc.mode = .survey then s
  else
    match (s.filter f).state with
    | .service | .held | .unknown => s.takeLocal f
    | .fault => if s.orphanNames f then s else s.takeLocal f
    | .wash => (s.takeLocal f).orphanWash f .localTaken .localTaken
    | .localCtl | .unused => s

/-- A filter in UNKNOWN is one that a regain or a freed orphan classifies (R10, R12). -/
def State.classifiable (s : State) (f : FilterId) : Bool :=
  (s.filter f).state = .unknown && (s.filter f).pending.isNone && !s.orphanNames f && s.mc.mode != .survey

/-- Survey-of-one where it is due on an input answer: on return from local control (R18), on regain (R10), or after an
orphan's freeing (R12). -/
def State.classify (s : State) (f : FilterId) (word : BitVec 16) (localActive regained : Bool) : State :=
  if (s.filter f).state = .localCtl && !localActive && !s.orphanNames f && s.mc.mode != .survey then
    s.surveyOfOne f word false
  else if s.classifiable f && (regained || (s.filter f).classifyDue) then s.surveyOfOne f word localActive
  else s

/-! ### Misses (R149, R150) -/

/-- The blocks that a LOST event is handed to, before the NU. -/
def State.lostEvent (s : State) : NodeId → State
  | .filter f => s.filterLost f
  | .washWater => s.supplyLost .pumps
  | .airNode => s.supplyLost .blowers
  | .waste => s

/-- The filter number of a node's notices. -/
def NodeId.noticeNumber : NodeId → Nat
  | .filter f => filterNumber f
  | _ => 0

/-- A link after one more miss (R149, R150). -/
def NodeLink.miss (l : NodeLink) (limit : Nat) : NodeLink :=
  { l with
    totalMisses := satIncr l.totalMisses
    misses := if l.misses < limit then l.misses + 1 else l.misses
    lost := l.lost || decide (l.misses < limit ∧ l.misses + 1 = limit) }

/-- The image sent to a node is removed when its transaction ends (R148). -/
def State.dropSent (s : State) : NodeId → State
  | .filter f => s.setFnode f { s.fnode f with sent := none }
  | .washWater => { s with gbm := { s.gbm with washNode := { s.gbm.washNode with sent := none } } }
  | .airNode => { s with gbm := { s.gbm with airNode := { s.gbm.airNode with sent := none } } }
  | .waste => s

/-- A poll has got no valid answer: the miss is counted, and the LOST event is handed on when the count has just come to the
limit (R149, R150). -/
def State.countMiss (s : State) (n : NodeId) : State :=
  let old := s.link n
  let new := old.miss s.gbm.settings.missLimit
  let s := (s.setLink n new).dropSent n
  let s := { s with gbm := { s.gbm with scanMissed := true } }
  if new.lost && !old.lost then (s.lostEvent n).raise .node n.noticeNumber else s

/-! ### Answers: the GBM's part (R151, R152, R153) -/

/-- The bits of a status byte that have a name, node healthy and the LOCAL switch; the others are ignored on receipt (R168,
R169). Bit 1 is kept as received for nodes 21 to 23 too, where R142 gives it no use (log 46). -/
def namedStatus (status : Byte) : Byte := status &&& 3

/-- A valid answer on the link: the count goes to 0, LOST is cleared with a NODE notice, status and time are stored
(R151, R153). -/
def State.hearNode (s : State) (n : NodeId) (status : Byte) : State :=
  let old := s.link n
  let s := s.setLink n { old with lost := false, misses := 0, status := some (namedStatus status), lastAnswer := some s.now }
  if old.lost then s.raise .node n.noticeNumber else s

/-- The change set of an input word against the one stored before it (R152). -/
def changeSetOf (stored : Option FilterInput) (word : BitVec 16) : BitVec 16 :=
  match stored with
  | some i => i.word ^^^ word
  | none => 0

/-- The GBM stores an input answer, forms the change set and raises CHANGE (R152). -/
def State.storeInput (s : State) (f : FilterId) (i : FilterInput) : State :=
  let changes := changeSetOf (s.fnode f).input i.word
  let s := s.setFnode f { s.fnode f with input := some i, changeSet := changes }
  if changes &&& (s.filterConfig f).watchMask = 0 then s else s.raise .change (filterNumber f)

/-- A WRITE_IO answer settles write owed, when the image still equals the image sent (R148). -/
def FilterNode.settle (n : FilterNode) : FilterNode :=
  { n with owed := n.owed && !(n.sent = some n.image), sent := none }

/-- As `FilterNode.settle`, for node 21. -/
def WashNode.settle (n : WashNode) : WashNode := { n with owed := n.owed && !(n.sent = some n.image), sent := none }

/-- As `FilterNode.settle`, for node 22. -/
def AirNode.settle (n : AirNode) : AirNode := { n with owed := n.owed && !(n.sent = some n.image), sent := none }

/-! ### Filter answers (R153) -/

/-- The FT sets the valve view and the analog values (R2). -/
def State.viewAnswer (s : State) (f : FilterId) (i : FilterInput) : State :=
  s.modFilter f fun r =>
    { r with
      view := viewOfWord i.word
      headloss := i.headloss
      level := i.level
      turbidity := i.turbidity
      viewStale := false
      surveyAnswered := r.surveyAnswered || s.mc.mode = .survey }

/-- The FT on an input answer; tells whether a trip has been latched on it (R153). The LOCAL switch is taken before the view of
the same answer is set, so that the snapshot of a wash orphaned by it shows the valves as the answer before left them (R139);
that order is the model's reading (log 13). -/
def State.filterTable (s : State) (f : FilterId) (i : FilterInput) (localActive regained : Bool) : State × Bool :=
  let s := if localActive then s.localSwitch f else s
  let s := ((s.viewAnswer f i).movementAnswer f).classify f i.word localActive regained
  (s.watchDrift f).watchTrip f i.word

/-- The RA and the SS on an input answer, for the context that names the filter (R97, R110, R153). -/
def State.washAnswer (s : State) (f : FilterId) (tripped : Bool) : State :=
  match s.slotNaming f with
  | none => s
  | some c =>
    let s := (s.releaseHoldings c).testOrphan c
    s.sequencerAnswer c tripped

/-- A valid input answer from a filter node (R153). -/
def State.inputAnswer (s : State) (f : FilterId) (status : Byte) (i : FilterInput) (written : Bool) : State :=
  let regained := s.isLost (.filter f)
  let s := (s.hearNode (.filter f) status).storeInput f i
  let s := if written then s.setFnode f (s.fnode f).settle else s
  let out := s.filterTable f i (statusLocal status) regained
  (out.1.evalTriggers f true).washAnswer f out.2

/-- The FT takes a totalizer value; a CLEAR_TOTAL answer carries 0 and ends the clear (R21). -/
def State.takeTotal (s : State) (f : FilterId) (v : BitVec 32) (cleared : Bool) : State :=
  s.modFilter f fun r =>
    { r with
      filteredVolume := if cleared then 0 else v.toNat
      totalClear := !cleared && r.totalClear }

/-- A valid totalizer answer from a filter node (R21, R153). -/
def State.totalizerAnswer (s : State) (f : FilterId) (status : Byte) (v : BitVec 32) (cleared : Bool) : State :=
  let regained := s.isLost (.filter f)
  let s := s.hearNode (.filter f) status
  let s := s.setFnode f { s.fnode f with totalizer := some v }
  let s := if statusLocal status then s.localSwitch f else s
  let s := if regained && s.classifiable f then s.modFilter f fun r => { r with classifyDue := true } else s
  (s.takeTotal f v cleared).evalTriggers f false

/-! ### Supply answers (R154) -/

/-- The RA tests every orphan (R110). -/
def State.testOrphans (s : State) : State := allSlots.foldl State.testOrphan s

/-- A valid answer from node 21. -/
def State.pumpAnswer (s : State) (status : Byte) (i : PumpInput) (written : Bool) : State :=
  let previous := s.gbm.washNode.input.map fun x => x.tank
  let s := s.hearNode .washWater status
  let node := if written then s.gbm.washNode.settle else s.gbm.washNode
  let s := { s with
    gbm := { s.gbm with washNode := { node with input := some i } }
    nu := { s.nu with tankWatch := ⟨previous, true⟩ } }
  (allSlots.foldl State.pumpAnswerFor s).testOrphans

/-- A valid answer from node 22. -/
def State.blowerAnswer (s : State) (status : Byte) (i : BlowerInput) (written : Bool) : State :=
  let s := s.hearNode .airNode status
  let node := if written then s.gbm.airNode.settle else s.gbm.airNode
  let s := { s with gbm := { s.gbm with airNode := { node with input := some i } } }
  (allSlots.foldl (fun s c => s.superviseSupply c .blowers) s).testOrphans

/-- A valid answer from node 23. -/
def State.wasteAnswer (s : State) (status : Byte) (i : WasteInput) : State :=
  let previous := s.gbm.wasteInput.map fun x => x.basin
  let s := s.hearNode .waste status
  { s with
    gbm := { s.gbm with wasteInput := some i }
    nu := { s.nu with basinWatch := ⟨previous, true⟩ } }

/-! ### Transactions -/

/-- A valid answer to the poll of a node with a code is stored and handed to its owners. -/
def State.handAnswer (s : State) (n : NodeId) (code : PollCode) (a : Answer) : State :=
  match n with
  | .filter f =>
    if code.isInput then s.inputAnswer f a.status (filterInputOf a.payload) (code = .writeIo)
    else s.totalizerAnswer f a.status (totalizerOf a.payload) (code = .clearTotal)
  | .washWater => s.pumpAnswer a.status (pumpInputOf a.payload) (code = .writeIo)
  | .airNode => s.blowerAnswer a.status (blowerInputOf a.payload) (code = .writeIo)
  | .waste => s.wasteAnswer a.status (wasteInputOf a.payload)

/-- An answer arrives: a valid one is handed on, one that fails a check of R145 is counted as missing, and one that no
poll awaits belongs to no transaction and is discarded (R145; log 36). -/
def State.takeAnswer (s : State) (a : Answer) : State :=
  match s.gbm.phase with
  | .awaiting n code =>
    (if answerValid n code a then s.handAnswer n code a else s.countMiss n).endTransaction n
  | _ => s

/-- The reply window closes on a poll with no answer (R145, R149). -/
def State.missAnswer (s : State) : State :=
  match s.gbm.phase with
  | .awaiting n _ => (s.countMiss n).endTransaction n
  | _ => s

/-- The poll that has come due is sent (R143, R146). -/
def State.pollDue (s : State) : State :=
  match s.gbm.phase with
  | .due n => s.sendPoll n
  | _ => s

/-- The scan period runs out: the next scan starts, or the scan in progress has overrun (R143, R144). -/
def State.expirePeriod (s : State) : State :=
  match s.gbm.phase with
  | .idle => s.startScan
  | _ => { s with gbm := { s.gbm with periodExpired := true } }

end Sys2Proof.Machine
end

