-- ==== Sys2Proof/Machine/Reset.lean ====
section
/-! DEFINITION. Power, pins, reset and the modes: RSTN and VDD (R157, R181, R184), the loading of the store (R179), power-on,
pin reset and RESTART (R184, R186), and leaving SETUP (R159, R22, R182). -/

namespace Sys2Proof.Machine

/-! ### Power and pins -/

/-- All activity ends: frame, reply and poll are cut, ATTN is released, and a store write that is cut leaves a bad CRC (R157,
R160, R165, R174, R181; log 5). -/
def State.halt (s : State) (p : Power) : State :=
  { s with
    mc := { s.mc with power := p }
    hlu := { s.hlu with receiver := .hunt, rxBuffer := [], txBuffer := [], restartPending := false }
    cs := { s.cs with store := if s.cs.writing.isSome then none else s.cs.store, writing := none }
    gbm := { s.gbm with phase := .idle }
    nu := { s.nu with attnDriven := false, attnGap := false } }

/-- An event that the part takes only while it runs (R184; log 5). -/
def State.running (s : State) : Bool := s.mc.power = .running

/-- Act only while the part runs. -/
def State.whenRunning (s : State) (f : State → State) : State := if s.running then f s else s

/-! ### Reset (R179, R184) -/

/-- The gallery settings of a configuration (R141, R159). -/
def PlantConfig.busSettings (p : PlantConfig) : BusSettings := ⟨p.filterCount, p.scanPeriod, p.replyWindow, p.missLimit⟩

/-- The first value of the totalizer cursor (R141). -/
def firstCursor (filterCount : Nat) : Option FilterId := if filterCount = 0 then none else some 0

/-- The first node of a scan for a filter count (R143). -/
def firstNodeFor (filterCount : Nat) : NodeId := if filterCount = 0 then .washWater else .filter 0

/-- The filter records after a reset (R23). -/
def resetRecords (filterCount : Nat) : Vector FilterRecord 20 :=
  Vector.ofFn fun f => FilterRecord.reset (if f.val < filterCount then .unknown else .unused)

/-- What a reset keeps, which differs between power-on or pin reset and RESTART (R184, R186). -/
structure Kept where
  seconds  : Seconds
  fastLink : Bool
  records  : RecordList
deriving DecidableEq, Repr

/-- Every block at its reset values, with the store loaded and the mode set, before the FAULT notice of an invalid store
(R179, R184). The store is loaded as COMMIT wrote it, a filter configuration above its F that was unwritten included
(log 43). -/
def State.resetBlocks (s : State) (k : Kept) : State :=
  let working := s.cs.store.getD WorkingConfig.defaults
  let plant := working.plant
  { s with
    mc := { power := .running, mode := if s.cs.store.isSome then .survey else .setup, seconds := k.seconds,
            surveyProgress := 0 }
    hlu := { receiver := .hunt, rxBuffer := [], txBuffer := [], restartPending := false, fastLink := k.fastLink }
    cs := { store := s.cs.store, writing := none, working := working }
    gbm := BusMaster.reset plant.busSettings (firstCursor plant.filterCount) (firstNodeFor plant.filterCount)
    ft := { records := resetRecords plant.filterCount }
    te := { triggers := Vector.replicate 20 Triggers.armed }
    wq := { entries := [], changeNumber := 0 }
    au := AdmissionUnit.reset (requiredFor plant.fallbackFlow plant.maxFilterFlow)
    ss := { contexts := Vector.replicate 4 none }
    ra := ResourceUnit.reset
    nu := NoticeUnit.reset
    wr := k.records }

/-- A reset; an invalid store raises FAULT with filter 0 (R179). -/
def State.resetWith (s : State) (k : Kept) : State :=
  if s.cs.store.isSome then s.resetBlocks k else (s.resetBlocks k).raise .fault 0

/-- Power-on or pin reset: plant seconds start at 0, SPEED is sampled, the record list is emptied (R184, R176). -/
def State.coldReset (s : State) (speedHigh : Bool) : State := s.resetWith ⟨0, speedHigh, ⟨[], 0⟩⟩

/-! ### RESTART (R186) -/

/-- The RESET-INTERRUPTED record of one context. -/
def State.recordInterrupted (s : State) (c : Slot) : State :=
  s.withCtx c fun w =>
    match w.state with
    | .active => s.recordWash w .resetInterrupted (some .resetInterrupted) none none
    | .exiting => s.recordWash w .resetInterrupted w.cause (some .resetInterrupted) none
    | .orphan => s

/-- The reset of RESTART: records first, then a reset that keeps plant seconds, the records and the link rate. -/
def State.warmReset (s : State) : State :=
  let s := allSlots.foldl State.recordInterrupted s
  s.resetWith ⟨s.now, s.hlu.fastLink, s.wr⟩

/-! ### Leaving SETUP (R182) -/

/-- A link when new gallery settings are taken (R159). -/
def NodeLink.renew (l : NodeLink) : NodeLink := { l with lost := false, misses := 0 }

/-- The GBM takes the new gallery settings (R159). -/
def State.takeSettings (s : State) : State :=
  let plant := s.plant
  { s with gbm := { s.gbm with
      links := mapEach NodeLink.renew s.gbm.links
      filterNodes := mapEach (fun n => { n with owed := false, sent := none }) s.gbm.filterNodes
      washNode := { s.gbm.washNode with owed := false, sent := none }
      airNode := { s.gbm.airNode with owed := false, sent := none }
      settings := plant.busSettings
      cursor := firstCursor plant.filterCount } }

/-- A record that is set to UNUSED or taken from it: the reset values of R23 (R22), but for the rewash pending mark and the
short-ripen mark, which R119 and R123 keep on this change of state; that these two rules hold against R22's reset values is
the model's choice (log 39). -/
def FilterRecord.renew (r : FilterRecord) (st : FilterState) : FilterRecord :=
  { FilterRecord.reset st with shortRipen := r.shortRipen, rewashPending := r.rewashPending }

/-- One filter record when the filter count changes (R22; log 39 for its marks). -/
def FilterRecord.recount (r : FilterRecord) (configured : Bool) : FilterRecord :=
  if configured then
    if r.state = .unused then r.renew .unknown
    else
      { r with
        state := .unknown
        pending := none
        held := none
        fault := none
        classifyDue := false
        surveyAnswered := false }
  else r.renew .unused

/-- The FT applies the new F, the WQ discards every entry, and the triggers return to ARMED (R22, R44). The floor is not
evaluated on these changes (log 17). -/
def State.applyFilterCount (s : State) : State :=
  let f := s.filterCount
  { s with
    ft := { records := Vector.ofFn fun i => (s.ft.records[i.val]).recount (decide (i.val < f)) }
    te := { triggers := Vector.replicate 20 Triggers.armed }
    wq := { entries := [], changeNumber := s.wq.changeNumber + BitVec.ofNat 16 s.wq.entries.length } }

/-- The floor is set NORMAL without a notice, and the survey begins (R49, R182, R185). -/
def State.beginSurvey (s : State) : State :=
  { s with
    au := { s.au with breach := false }
    mc := { s.mc with mode := .survey, surveyProgress := 0 } }.startScan

/-- The part leaves SETUP (R182). -/
def State.leaveSetup (s : State) : State := s.takeSettings.applyFilterCount.beginSurvey

end Sys2Proof.Machine
end

