-- ==== Sys2Proof/Machine/Link.lean ====
section
/-! DEFINITION. The Host Link Unit (HLU): the receiver (R160, R162), kinds and body lengths (R168), mode acceptance
(R166), the tests on a frame and the two forms of reply (R163, R164). -/

namespace Sys2Proof.Machine

/-! ### Kinds, lengths, modes -/

/-- The 33 message kinds, in the order of their codes. -/
inductive Kind where
  | ident | status | flow | filterRead | queueRead | contextRead | resourceRead | nodeRead | nodeClear | recordRead
  | noticeRead | noticeAck | noticeEnable | mode | wash | cancel | start | continueWash | release | isolate | free
  | clear | tune | profileWrite | profileRead | filterConfig | plantConfig | configRead | commit | discard | restart
  | patternRead | exit
deriving DecidableEq, Repr

/-- The kind code (R168). -/
def Kind.code : Kind → Nat
  | .ident => 0x01
  | .status => 0x02
  | .flow => 0x03
  | .filterRead => 0x04
  | .queueRead => 0x05
  | .contextRead => 0x06
  | .resourceRead => 0x07
  | .nodeRead => 0x08
  | .nodeClear => 0x09
  | .recordRead => 0x0A
  | .noticeRead => 0x0B
  | .noticeAck => 0x0C
  | .noticeEnable => 0x0D
  | .mode => 0x0E
  | .wash => 0x0F
  | .cancel => 0x10
  | .start => 0x11
  | .continueWash => 0x12
  | .release => 0x13
  | .isolate => 0x14
  | .free => 0x15
  | .clear => 0x16
  | .tune => 0x17
  | .profileWrite => 0x18
  | .profileRead => 0x19
  | .filterConfig => 0x1A
  | .plantConfig => 0x1B
  | .configRead => 0x1C
  | .commit => 0x1D
  | .discard => 0x1E
  | .restart => 0x1F
  | .patternRead => 0x20
  | .exit => 0x21

/-- The body length the kind code table gives (R168); PROFILE-WRITE takes it from the step count it carries (R163). -/
def Kind.bodyLength (body : List Byte) : Kind → Nat
  | .ident | .status | .queueRead | .resourceRead | .nodeClear | .noticeRead | .commit | .discard | .restart => 0
  | .filterRead | .contextRead | .nodeRead | .recordRead | .mode | .wash | .cancel | .start | .continueWash => 1
  | .release | .isolate | .free | .profileRead | .configRead | .patternRead | .exit => 1
  | .flow | .noticeAck | .noticeEnable | .clear => 2
  | .tune => 14
  | .profileWrite => 2 + 10 * u8 body 1
  | .filterConfig => 18
  | .plantConfig => 41

/-- The mode acceptance table (R166). MODE is decided apart. -/
def Kind.accepted : Kind → PartMode → Bool
  | .ident, _ | .status, _ | .flow, _ | .filterRead, _ | .queueRead, _ | .contextRead, _ | .resourceRead, _ => true
  | .nodeRead, _ | .recordRead, _ | .noticeRead, _ | .noticeAck, _ | .noticeEnable, _ | .profileRead, _ => true
  | .configRead, _ | .restart, _ | .patternRead, _ => true
  | .nodeClear, m | .mode, m => m != .survey
  | .start, m => m = .hold
  | .wash, m | .cancel, m | .exit, m | .continueWash, m | .release, m | .isolate, m | .free, m => m = .hold || m = .auto
  | .clear, m | .tune, m => m = .hold || m = .auto
  | .profileWrite, m | .filterConfig, m | .plantConfig, m | .commit, m | .discard, m => m = .setup

/-! ### Replies (R164) -/

/-- The reasons of a refusal, in the order of their codes. -/
inductive Reason where
  | unknownKind | length | range | mode | state | floor | volume | slots | supply | invalid
deriving DecidableEq, Repr

/-- The reason code (R164). -/
def Reason.code : Reason → Nat
  | .unknownKind => 1
  | .length => 2
  | .range => 3
  | .mode => 4
  | .state => 5
  | .floor => 6
  | .volume => 7
  | .slots => 8
  | .supply => 9
  | .invalid => 10

/-- A refusal: its reason, and the item index, which is 0 except with INVALID. -/
structure Refuse where
  reason : Reason
  index  : Nat
deriving DecidableEq, Repr

/-- A refusal with item index 0. -/
def Refuse.of (r : Reason) : Refuse := ⟨r, 0⟩

/-- What the owning block decides of a request: refused, or its effect and the content of the OK reply. -/
abbrev Decision := Except Refuse (State × List Byte)

/-- Refused for a reason. -/
def refuse (r : Reason) : Decision := .error (Refuse.of r)

/-- Accepted, with the state after and the body of the OK reply. -/
def accept (s : State) (body : List Byte) : Decision := .ok (s, body)

/-- Put a reply frame into the reply buffer. -/
def State.putReply (s : State) (kind : Byte) (body : List Byte) : State :=
  { s with hlu := { s.hlu with txBuffer := frameBytes kind body } }

/-- The OK reply of a kind: its code with the top bit set. -/
def State.replyOk (s : State) (k : Kind) (body : List Byte) : State :=
  s.putReply (BitVec.ofNat 8 (k.code + 128)) body

/-- A refusal reply, with the kind byte as received. -/
def State.replyRefused (s : State) (kind : Byte) (r : Refuse) : State :=
  s.putReply 0xFF (kind :: (be8 r.reason.code ++ be8 r.index))

/-! ### The receiver (R160, R161, R162) -/

/-- The receiver returns to HUNT with its buffer empty (log 27). -/
def State.toHunt (s : State) : State := { s with hlu := { s.hlu with receiver := .hunt, rxBuffer := [] } }

/-- A frame starts. -/
def State.startFrame (s : State) : State := { s with hlu := { s.hlu with receiver := .receiving, rxBuffer := [] } }

/-- A well-formed frame stands in the receive buffer and makes the receiver BUSY. -/
def State.frameTaken (s : State) (kind : Byte) (body : List Byte) : State :=
  { s with hlu := { s.hlu with receiver := .busy, rxBuffer := frameStored kind body } }

/-- The receiver takes a frame now: the part runs and the receiver is not BUSY (R162, R184; log 4). -/
def State.hears (s : State) : Bool := s.running && s.hlu.receiver != .busy

/-- The tests of R163 in order on a request of a known kind, and the decision of its owning block. -/
def judge (s : State) (k : Kind) (body : List Byte) (own : State → Decision) : Decision :=
  if body.length != k.bodyLength body then refuse .length
  else if !k.accepted s.mc.mode then refuse .mode
  else own s

/-- The reply and the effect of a decision: a refused request changes no state of the part (R163, R164). -/
def State.answer (s : State) (k : Kind) (d : Decision) : State :=
  match d with
  | .ok (t, body) => t.replyOk k body
  | .error r => s.replyRefused (BitVec.ofNat 8 k.code) r

/-- A whole frame with a correct CRC is received: it is discarded in BUSY or when its length byte is above 240, and is decided
otherwise (R160 to R165). -/
def State.receive (s : State) (k : Kind) (body : List Byte) (own : State → Decision) : State :=
  if s.hears then
    if 240 < body.length then s.toHunt
    else
      let s := s.frameTaken (BitVec.ofNat 8 k.code) body
      s.answer k (judge s k body own)
  else s

end Sys2Proof.Machine
end

