-- ==== Sys2Proof/Machine/Replies.lean ====
section
/-! DEFINITION. The contents of the replies: the bodies laid out in 09_host_link_and_messages.md (R168) and, for the others,
the field lists of the owning chapters in their order (log 21). -/

namespace Sys2Proof.Machine

/-! ### Small parts -/

/-- A plant-seconds field. -/
def secondsBytes (t : Seconds) : List Byte := be32 t.toNat

/-- A plant-seconds field that may be absent. -/
def optSeconds (t : Option Seconds) : List Byte := opt32 (t.map fun x => x.toNat)

/-- The seconds since a time that may be absent. -/
def State.optSince (s : State) (t : Option Seconds) : List Byte := opt32 (t.map fun x => s.since x)

/-- Some bytes followed by unused places, `n` in all. -/
def padTo (n : Nat) (bytes : List Byte) : List Byte := (bytes ++ unused n).take n

/-- A filter number that may be absent. -/
def optFilter (f : Option FilterId) : List Byte := opt8 (f.map filterNumber)

/-- A slot that may be absent. -/
def optSlot (c : Option Slot) : List Byte := opt8 (c.map fun x => x.val)

/-- A set of slots. -/
def slotBits (l : List Slot) : Nat := bitField (allSlots.map fun c => decide (c ∈ l))

/-- A valve that may be absent. -/
def optValve (v : Option Valve) : List Byte := opt8 (v.map Valve.index)

/-- The signed quantity as an unsigned field; it is never negative in a reachable state (R106). -/
def volumeOf (i : Int) : Nat := i.toNat

/-! ### IDENT (R167) -/

/-- IDENT OK body. -/
def State.identBody (s : State) : List Byte :=
  [0x4A, 0x14, 1, 20] ++ be8 (flagCode s.hlu.fastLink) ++ be8 s.mc.mode.code ++ be8 s.filterCount

/-! ### STATUS (R66) -/

/-- Some node is LOST. -/
def State.anyLost (s : State) : Bool := s.gbm.links.toList.any fun l => l.lost

/-- The pending kinds. -/
def NoticeUnit.pendingBits (u : NoticeUnit) : Nat := bitField (u.accounts.toList.map fun a => a.pending)

/-- STATUS OK body, 39 bytes. -/
def State.statusBody (s : State) : List Byte :=
  secondsBytes s.now ++ be8 s.mc.mode.code ++ be8 s.filterCount ++ be16 s.au.reportedFlow ++
    be8 (flagCode (!s.au.fresh)) ++ s.optSince s.au.arrival ++ opt16 s.flowInUse ++ be16 s.au.required ++
    be8 s.serviceCount ++ be8 s.isolatingCount ++ be8 (flagCode s.au.breach) ++ optSeconds s.au.lastAdmission ++
    be8 (slotBits s.au.shed) ++ be8 s.au.lastCheck.code ++ optFilter s.au.lastCheck.filter? ++
    opt8 (s.au.lastCheck.reason?.map PassOver.code) ++ be16 s.wq.changeNumber.toNat ++ be8 s.wq.entries.length ++
    (allSlots.flatMap fun c => be8 (ctxCode (s.ctx c))) ++ be16 s.nu.pendingBits ++ be8 (flagCode s.nu.attnDriven) ++
    be8 (flagCode s.anyLost)

/-- FLOW OK body (R47). -/
def State.flowBody (s : State) : List Byte :=
  be8 (flagCode (!s.au.fresh)) ++ be16 s.au.required ++ be8 s.serviceCount ++ be8 (flagCode s.au.breach)

/-! ### FILTER-READ and PATTERN-READ (R24) -/

/-- A pattern that may be absent. -/
def optPattern (p : Option Pattern) : List Byte := opt8 (p.map Pattern.code)

/-- The pending pattern and its travel start time. -/
def pendingBytes (m : Option Movement) : List Byte :=
  optPattern (m.map Movement.pattern) ++ optSeconds (m.map fun x => x.start)

/-- The analog values. -/
def FilterRecord.analogBytes (r : FilterRecord) : List Byte :=
  be16 r.headloss.toNat ++ be16 r.level.toNat ++ be16 r.turbidity.toNat

/-- FILTER-READ OK body, 30 bytes. -/
def State.filterBody (s : State) (f : FilterId) : List Byte :=
  let r := s.filter f
  be8 (filterNumber f) ++ be8 r.state.code ++ be8 (heldCode r.held) ++ optPattern r.commanded ++ pendingBytes r.pending ++
    be16 (viewBits r.view) ++
    be8 (bitField [r.drift, r.totalClear, r.shortRipen, r.rewashPending, (s.entry? f).isSome]) ++
    opt8 (r.trip.map fun i => i.val) ++ opt8 (r.fault.map fun x => x.cause.code) ++
    optValve (r.fault.bind fun x => x.valve) ++ be32 r.runSeconds ++ be32 r.filteredVolume ++ r.analogBytes ++
    optSlot (s.slotNaming f)

/-- PATTERN-READ OK body. -/
def State.patternBody (s : State) (f : FilterId) : List Byte :=
  let r := s.filter f
  be8 (valveBits (s.fnode f).image) ++ be16 (viewBits r.view) ++ optPattern r.commanded ++ pendingBytes r.pending

/-! ### QUEUE-READ (R43), WASH and CANCEL (R40) -/

/-- A movement to ISOLATED is in travel for a filter. -/
def State.toIsolated (s : State) (f : FilterId) : Bool :=
  match (s.filter f).pending with
  | some m => !m.toService
  | none => false

/-- A queue item, 10 bytes. -/
def State.queueItem (s : State) (e : QueueEntry) : List Byte :=
  let r := s.filter e.filter
  be8 (filterNumber e.filter) ++ be8 e.cls.code ++ be8 e.causes.bits ++ secondsBytes e.entryTime ++ be8 r.state.code ++
    be8 (heldCode r.held) ++ be8 (bitField [s.toIsolated e.filter, r.rewashPending])

/-- QUEUE-READ OK body. -/
def State.queueBody (s : State) : List Byte :=
  be16 s.wq.changeNumber.toNat ++ be8 s.wq.entries.length ++ s.wq.entries.flatMap s.queueItem

/-- The class, cause set and entry time of an entry. -/
def QueueEntry.fieldBytes (e : QueueEntry) : List Byte := be8 e.cls.code ++ be8 e.causes.bits ++ secondsBytes e.entryTime

/-- WASH OK body. -/
def State.washBody (s : State) (f : FilterId) : List Byte :=
  (match s.entry? f with
    | some e => e.fieldBytes
    | none => unused 6) ++ be8 (s.positionOf f) ++ be16 s.wq.changeNumber.toNat

/-- CANCEL OK body: the removed entry, and the change number after the removal. -/
def State.cancelBody (s : State) (removed : QueueEntry) : List Byte := removed.fieldBytes ++ be16 s.wq.changeNumber.toNat

/-! ### CONTEXT-READ (R91, R125) -/

/-- The fields of a profile step after its kind. -/
def stepFieldBytes : Option PlannedStep → List Byte
  | some p =>
    be16 p.step.duration ++ be16 p.step.flowTarget ++ be16 p.step.fallbackFlow ++ be16 p.step.levelTarget ++
      be8 (flagCode p.step.holdPoint)
  | none => unused 9

/-- The seconds left of a timer. -/
def State.secondsLeft (s : State) (start : Seconds) (limit : Nat) : Nat := limit - s.since start

/-- The start time of a supply that is STARTING. -/
def SupplyState.startTime? : SupplyState → Option Seconds
  | .starting _ _ t => some t
  | _ => none

/-- The seconds left of the supply start that expires first (R91). -/
def State.startLeft (s : State) (w : WashContext) : Option Nat :=
  (([w.airSupply, w.washSupply].filterMap SupplyState.startTime?).map fun t => s.secondsLeft t s.plant.startConfirm).min?

/-- The limit of the timer that runs for a context, and the seconds left before it expires (R91, R128). -/
def State.timerOf (s : State) (w : WashContext) : Option Nat × Option Nat :=
  let from' := fun (start : Option Seconds) (limit : Nat) =>
    (some limit, start.map fun t => s.secondsLeft t limit)
  match w.state with
  | .orphan => (none, none)
  | .exiting => from' w.exitStart s.plant.travelLimit
  | .active =>
    match w.phase with
    | .acquire => from' (some w.phaseStart) s.plant.headerWait
    | .setting => from' (some w.phaseStart) s.plant.travelLimit
    | .starting => (some s.plant.startConfirm, s.startLeft w)
    | .ramping => from' w.windowStart s.plant.rampWindow
    | .timing =>
      match w.planned? with
      | some p => from' (some w.phaseStart) p.step.duration
      | none => (none, none)
    | .holdpoint => from' (some w.phaseStart) s.plant.holdLimit

/-- The header awaited and the position in its wait list. -/
def State.awaitBytes (s : State) (c : Slot) : List Byte :=
  match s.headerAwaited c with
  | some h => be8 h.code ++ be8 ((s.header h).waiting.idxOf c)
  | none => unused 2

/-- The watch of R115 runs. -/
def WashContext.watchRuns (w : WashContext) : Bool := w.activeIn .timing && w.kind? = some .ripen

/-- The seconds of sustain still to run while the watch runs (R125). -/
def State.sustainLeft (s : State) (w : WashContext) : Option Nat :=
  if w.watchRuns then w.sustainStart.map fun t => s.secondsLeft t s.plant.ripenSustain else none

/-- The ripening fields, carried when the step is RIPEN or the ripen result is not NONE (R125; log 22). -/
def State.ripenBytes (s : State) (w : WashContext) : List Byte :=
  if w.kind? = some .ripen || w.ripenResult != .none then
    optSeconds w.sustainStart ++ opt32 (s.sustainLeft w) ++ be8 w.ripenResult.code ++
      opt16 ((s.filterConfig w.filter).settings.map fun x => x.returnLimit)
  else unused 11

/-- A fault cause that may be absent. -/
def optCause (x : Option FaultCause) : List Byte := opt8 (x.map FaultCause.code)

/-- The body of a context that is not FREE, after slot and state. -/
def State.contextFields (s : State) (c : Slot) (w : WashContext) : List Byte :=
  be8 (filterNumber w.filter) ++ be8 w.profile.number ++ be8 w.profile.steps.length ++ be8 w.cls.code ++
    be8 w.causes.bits ++ secondsBytes w.entryTime ++ secondsBytes w.admissionTime ++ be8 w.stepIndex ++
    be8 (kindCode w.kind?) ++ stepFieldBytes w.planned? ++ be8 w.phase.code ++ be32 (s.since w.stepStart) ++
    be32 (s.since w.phaseStart) ++ opt16 (s.timerOf w).1 ++ opt32 (s.timerOf w).2 ++ be8 w.progress.code ++
    be8 (s.headersHeld c).bits ++ s.awaitBytes c ++ be16 (volumeOf w.tankRemaining) ++
    be16 (volumeOf w.basinRemaining) ++ be8 (bitField [w.reduced, w.fallbackUsed]) ++ be8 (flagCode w.secondAttempt) ++
    be16 w.setpoint ++ opt8 (w.exitKind.map ExitKind.code) ++ optCause w.cause ++ optCause w.secondCause ++
    s.ripenBytes w

/-- CONTEXT-READ OK body: 2 bytes for a FREE context, 67 for another. -/
def State.contextBody (s : State) (c : Slot) : List Byte :=
  be8 c.val ++ be8 (ctxCode (s.ctx c)) ++
    (match s.ctx c with
      | some w => s.contextFields c w
      | none => [])

/-! ### RESOURCE-READ (R113) -/

/-- A holding: its slot and HELD or ORPHAN. -/
def holdingBytes : Option Holding → List Byte
  | some x => be8 x.slot.val ++ be8 (flagCode x.orphan)
  | none => unused 2

/-- A header block, 10 bytes. -/
def State.headerBlock (s : State) (h : Header) : List Byte :=
  let e := s.header h
  be8 h.capacity ++ holdingBytes e.holdings[0]? ++ holdingBytes e.holdings[1]? ++ be8 e.waiting.length ++
    padTo 4 (e.waiting.flatMap fun c => be8 c.val)

/-- The slot of the holder of a pair's header. -/
def State.holderOf (s : State) (p : SupplyPair) : Option Slot := (s.holders (pairHeader p)).head?

/-- The supply of a pair as run for its holder. -/
def State.supplyOf (s : State) (p : SupplyPair) : SupplyState :=
  match (s.holderOf p).bind s.ctx with
  | some w => w.supply p
  | none => .stopped

/-- The supply state, the unit and the holder of a pair. -/
def State.supplyBytes (s : State) (p : SupplyPair) : List Byte :=
  be8 (s.supplyOf p).code ++ opt8 ((s.supplyOf p).unit?.map UnitId.code) ++ optSlot (s.holderOf p)

/-- The readings of node 21 as reported: 0 and inactive before the first valid answer (R107). -/
def State.pumpReadings (s : State) : PumpInput := s.gbm.washNode.input.getD ⟨false, false, 0, 0⟩

/-- As `pumpReadings`, for node 22. -/
def State.blowerReadings (s : State) : BlowerInput := s.gbm.airNode.input.getD ⟨false, false, 0⟩

/-- As `pumpReadings`, for node 23. -/
def State.wasteReadings (s : State) : WasteInput := s.gbm.wasteInput.getD ⟨0, false⟩

/-- A margin; while its reserve has no value it is a free value (log 11). -/
def State.marginBytes (s : State) (volume : Nat) (total : Int) (reserve : Option Nat) (which : Nat) : List Byte :=
  match reserve with
  | some r => beSigned ((volume : Int) - total - r)
  | none => be32 (Config.freeMargin s.free which).toNat

/-- RESOURCE-READ OK body, 72 bytes. -/
def State.resourceBody (s : State) : List Byte :=
  s.headerBlock .air ++ s.headerBlock .wash ++ s.headerBlock .ftw ++
    s.supplyBytes .blowers ++ s.gbm.airNode.image.bytes ++
    s.supplyBytes .pumps ++ s.gbm.washNode.image.bytes ++
    be8 (bitField [s.ra.pumpDuty = .b, s.ra.blowerDuty = .b]) ++
    be8 (bitField [s.ra.pumpFault.a, s.ra.pumpFault.b, s.ra.blowerFault.a, s.ra.blowerFault.b]) ++
    s.pumpReadings.bytes ++ be8 (flagCode (s.isLost .washWater)) ++
    s.blowerReadings.bytes ++ be8 (flagCode (s.isLost .airNode)) ++
    s.wasteReadings.bytes ++ be8 (flagCode (s.isLost .waste)) ++
    be32 (volumeOf s.ra.tankTotal) ++ be32 (volumeOf s.ra.basinTotal) ++
    s.marginBytes s.tankAvailable s.ra.tankTotal s.plant.tankReserve 0 ++
    s.marginBytes s.basinFree s.ra.basinTotal s.plant.basinReserve 1

/-- The free values a RESOURCE-READ draws: one counter step while a reserve has no value. -/
def State.drawMargins (s : State) : State :=
  if s.plant.tankReserve.isNone || s.plant.basinReserve.isNone then { s with free := s.free + 1 } else s

/-! ### NODE-READ (R155) -/

/-- Write owed of a node; node 23 has no outputs. -/
def State.isOwed (s : State) : NodeId → Bool
  | .filter f => (s.fnode f).owed
  | .washWater => s.gbm.washNode.owed
  | .airNode => s.gbm.airNode.owed
  | .waste => false

/-- The latest input of a node as the answer payload, none before the first. -/
def State.inputBytes (s : State) : NodeId → List Byte
  | .filter f => match (s.fnode f).input with | some i => i.bytes | none => []
  | .washWater => match s.gbm.washNode.input with | some i => i.bytes | none => []
  | .airNode => match s.gbm.airNode.input with | some i => i.bytes | none => []
  | .waste => match s.gbm.wasteInput with | some i => i.bytes | none => []

/-- The latest totalizer of a node; supply nodes have none. -/
def State.totalizerBytes (s : State) : NodeId → List Byte
  | .filter f => opt32 ((s.fnode f).totalizer.map fun x => x.toNat)
  | _ => unused 4

/-- The change set of a node; a supply node's is always clear (R152). -/
def State.changeBytes (s : State) : NodeId → List Byte
  | .filter f => be16 (s.fnode f).changeSet.toNat
  | _ => be16 0

/-- A node is at the totalizer cursor for the current scan (R155). Between a scan's completion and the next start the cursor
has advanced already, and is reported as it stands (log 42). -/
def State.atCursor (s : State) : NodeId → Bool
  | .filter f => s.gbm.cursor = some f
  | _ => false

/-- NODE-READ OK body, 46 bytes. -/
def State.nodeBody (s : State) (n : NodeId) : List Byte :=
  let l := s.link n
  be8 n.address ++
    be8 (bitField [s.polled n, l.lost, s.isOwed n, decide (s.gbm.phase = .awaiting n .writeIo), s.atCursor n]) ++
    be8 l.misses ++ be16 l.totalMisses ++ opt8 (l.lastCode.map fun x => x.byte.toNat) ++ optSeconds l.lastAnswer ++
    s.optSince l.lastAnswer ++ opt8 (l.status.map fun x => x.toNat) ++ padTo 8 (s.inputBytes n) ++
    s.totalizerBytes n ++ s.changeBytes n ++ padTo 3 (s.imageBytes n) ++ be8 s.gbm.settings.filterCount ++
    be16 s.gbm.settings.scanPeriod ++ be8 s.gbm.settings.replyWindow ++ be8 s.gbm.settings.missLimit ++
    be32 s.gbm.scanCount.toNat ++ be16 s.gbm.scansWithMiss ++ be16 s.gbm.overruns ++ optFilter s.gbm.cursor

/-! ### RECORD-READ (R177) -/

/-- The snapshot part of a record, 11 bytes, all set without a snapshot. -/
def snapshotBytes : Option Snapshot → List Byte
  | some x =>
    be8 x.step.index ++ be8 (kindCode x.step.kind) ++ be8 x.step.phase.code ++ be32 x.step.elapsed.toNat ++
      be8 (valveBits x.valves.commanded) ++ be16 (viewBits x.valves.seen) ++ be8 x.valves.headers.bits
  | none => unused 11

/-- A wash record, 34 bytes. -/
def WashRecord.bytes (r : WashRecord) : List Byte :=
  be16 r.sequence.toNat ++ be8 (filterNumber r.filter) ++ be8 r.profile ++ be8 r.cls.code ++ be8 r.causes.bits ++
    secondsBytes r.admissionTime ++ secondsBytes r.endTime ++ be8 r.outcome.code ++ be8 (bitField [r.reduced]) ++
    be8 (flagCode r.secondAttempt) ++ be16 r.waterPlanned ++ optCause r.cause ++ optCause r.secondCause ++
    be8 r.ripenResult.code ++ be8 (flagCode r.snapshot.isSome) ++ snapshotBytes r.snapshot

/-- RECORD-READ OK body: records held, next sequence number, the record. -/
def State.recordBody (s : State) (r : WashRecord) : List Byte :=
  be8 s.wr.records.length ++ be16 s.wr.nextSequence.toNat ++ r.bytes

/-! ### Notices (R172, R173) -/

/-- The count and last filter of an account. -/
def NoticeAccount.bytes (a : NoticeAccount) : List Byte := be8 a.count ++ be8 a.lastFilter

/-- NOTICE-READ OK body, 29 bytes. -/
def State.noticeBody (s : State) : List Byte :=
  be16 s.cs.working.enables.toNat ++ be16 s.nu.pendingBits ++ s.nu.accounts.toList.flatMap NoticeAccount.bytes ++
    be8 (flagCode s.nu.attnDriven)

/-- NOTICE-ACK OK body: the accounts of the set as they stood, then the kinds still pending. -/
def ackBody (before after : NoticeUnit) (set : BitVec 12) : List Byte :=
  (before.accounts.toList.zipIdx.filter fun x => set.getLsbD x.2).flatMap (fun x => x.1.bytes) ++ be16 after.pendingBits

/-! ### Profiles (R70, R72, R90) -/

/-- Validity and failing index (R70, R90). R168 has no code list for the validity: 1 for valid and 0 for invalid is the
model's choice (log 44). -/
def validityBytes (steps : List ProfileStep) : List Byte :=
  be8 (flagCode (profileValid steps)) ++ opt8 (failingIndex steps)

/-- The demands of a valid profile, absent otherwise. -/
def demandBytes (ftwRate : Nat) (steps : List ProfileStep) : List Byte :=
  if profileValid steps then be16 (waterDemand steps) ++ be16 (wasteDemand ftwRate steps) else unused 4

/-- PROFILE-WRITE OK body. -/
def State.profileWriteBody (s : State) (n : Nat) (steps : List ProfileStep) : List Byte :=
  be8 n ++ validityBytes steps ++ demandBytes s.plant.ftwRate steps

/-- PROFILE-READ OK body. -/
def State.profileReadBody (s : State) (n : Nat) (steps : List ProfileStep) : List Byte :=
  be8 n ++ be8 steps.length ++ steps.flatMap ProfileStep.bytes ++ validityBytes steps ++ demandBytes s.plant.ftwRate steps

/-- TUNE OK body: the seven fields as now held, and the validity of the profile now named. -/
def State.tuneBody (s : State) (c : FilterSettings) : List Byte :=
  c.bytes ++ validityBytes ((s.profile? c.profile).getD [])

/-! ### CONFIG-READ (R180) -/

/-- CONFIG-READ OK body for selector 0. -/
def State.plantConfigBody (s : State) : List Byte := s.plant.bytes ++ be16 s.cs.working.enables.toNat

/-- CONFIG-READ OK body for a filter. -/
def State.filterConfigBody (s : State) (f : FilterId) : List Byte :=
  let c := s.filterConfig f
  (match c.settings with
    | some x => x.bytes
    | none => unused 13) ++ be16 c.watchMask.toNat ++ be16 c.tripMask.toNat ++ be8 (flagCode c.settings.isSome)

end Sys2Proof.Machine
end

