-- ==== Sys2Proof/Machine/PowerCommands.lean ====
section
/-! DEFINITION. The meanings of the power and pin commands (R181, R184, R157, R174). -/

namespace Sys2Proof.Machine

/-- A step of the block always answers a next state. -/
abbrev Result := Host.Outcome State Fault Refusal

/-- POWER_ON: what ran is cut, every block takes its reset values, SPEED is sampled, the store is loaded (R184). -/
def execPowerOn (speedHigh : Bool) (s : State) : Result := .next ((s.halt .off).coldReset speedHigh)

/-- RSTN_TAKEN: poll, reply and partial frame are cut and ATTN is released (R184). -/
def execRstnTaken (s : State) : Result := .next (s.whenRunning fun s => s.halt .held)

/-- PIN_RESET: at the release of RSTN the part resets as at power-on; without VDD nothing happens (R184; log 5). -/
def execPinReset (speedHigh : Bool) (s : State) : Result :=
  .next (if s.mc.power = .off then s else (s.halt .held).coldReset speedHigh)

/-- POWER_LOSS: all activity ends, and a store write in progress leaves a bad CRC (R181). -/
def execPowerLoss (s : State) : Result := .next (s.halt .off)

end Sys2Proof.Machine
end

