-- ==== Sys2Proof/Machine/TimerCommands.lean ====
section
/-! DEFINITION. The meanings of the clock and timer commands (R183 and the rule of each expiry). A timer command that is not due
does nothing (log 1). -/

namespace Sys2Proof.Machine

/-- PLANT_SECOND: plant seconds advance by one, and the run seconds of filters in SERVICE (R183, R20). -/
def State.tick (s : State) : State := { s with mc := { s.mc with seconds := s.mc.seconds + 1 } }.advanceRunSeconds

/-- The meaning of PLANT_SECOND. -/
def execPlantSecond (s : State) : Result := .next (s.whenRunning State.tick)

/-- The flow goes STALE: R is recomputed, the floor evaluated and FLOW-STALE raised (R48). -/
def State.goStale (s : State) : State :=
  (State.recomputeRequired { s with au := { s.au with fresh := false } }).raise .flowStale 0

/-- The flow report timeout has run out while the flow is FRESH (R48). -/
def State.flowTimedOut (s : State) : Bool :=
  s.au.fresh && (match s.au.arrival with
    | some t => s.expired t s.plant.flowTimeout
    | none => false)

/-- The meaning of FLOW_REPORT_TIMEOUT. -/
def execFlowReportTimeout (s : State) : Result := .next (s.whenRunning fun s => if s.flowTimedOut then s.goStale else s)

/-- The travel limit of a filter's movement runs out (R5). -/
def State.movementExpires (s : State) (f : FilterId) : State :=
  match (s.filter f).pending with
  | some m => if s.expired m.start s.plant.travelLimit then s.failMovement f m else s
  | none => s

/-- The meaning of MOVEMENT_TRAVEL_LIMIT. -/
def execMovementTravelLimit (f : FilterId) (s : State) : Result := .next (s.whenRunning fun s => s.movementExpires f)

/-- Act on a context that is ACTIVE in a phase whose timer has run out (R76). -/
def State.whenPhaseExpired (s : State) (c : Slot) (p : Phase) (limit : Nat) (g : WashContext → State) : State :=
  s.withCtx c fun w => if w.activeIn p && s.expired w.phaseStart limit then g w else s

/-- The meaning of HEADER_WAIT_LIMIT (R78). -/
def execHeaderWaitLimit (c : Slot) (s : State) : Result :=
  .next (s.whenRunning fun s => s.whenPhaseExpired c .acquire s.plant.headerWait fun _ =>
    s.decideExit c (some .headerWait) none)

/-- The meaning of SETTING_TRAVEL_LIMIT (R79, R86). -/
def execSettingTravelLimit (c : Slot) (s : State) : Result :=
  .next (s.whenRunning fun s => s.whenPhaseExpired c .setting s.plant.travelLimit fun w =>
    s.decideExit c (some .valveTravel) (some (valveNamed w.pattern w.answered (s.filter w.filter).view)))

/-- The start confirm time of a supply runs out (R100). -/
def State.startTimerExpires (s : State) (c : Slot) (p : SupplyPair) : State :=
  s.withCtx c fun w =>
    match w.supply p with
    | .starting u tried t => if s.expired t s.plant.startConfirm then s.startExpired c p u tried else s
    | _ => s

/-- The meaning of START_CONFIRM_EXPIRY. -/
def execStartConfirmExpiry (c : Slot) (p : SupplyPair) (s : State) : Result :=
  .next (s.whenRunning fun s => s.startTimerExpires c p)

/-- The ramp window of a context runs out (R103). -/
def State.rampTimerExpires (s : State) (c : Slot) : State :=
  s.withCtx c fun w =>
    match w.windowStart with
    | some t => if w.activeIn .ramping && s.expired t s.plant.rampWindow then s.rampExpired c else s
    | none => s

/-- The meaning of RAMP_WINDOW_EXPIRY. -/
def execRampWindowExpiry (c : Slot) (s : State) : Result := .next (s.whenRunning fun s => s.rampTimerExpires c)

/-- The duration of the step at a context's step index. -/
def WashContext.duration (w : WashContext) : Nat :=
  match w.planned? with
  | some p => p.step.duration
  | none => 0

/-- TIMING of a step has run for its duration (R82, R117). -/
def State.durationReached (s : State) (w : WashContext) : Bool :=
  w.activeIn .timing && s.expired w.phaseStart w.duration

/-- The meaning of STEP_DURATION_EXPIRY (R82); the maximum duration of a RIPEN step is a command of its own. -/
def execStepDurationExpiry (c : Slot) (s : State) : Result :=
  .next (s.whenRunning fun s => s.withCtx c fun w =>
    if s.durationReached w && w.kind? != some .ripen then s.endStep c else s)

/-- The meaning of RIPEN_MAXIMUM_DURATION (R117). -/
def execRipenMaximumDuration (c : Slot) (s : State) : Result :=
  .next (s.whenRunning fun s => s.withCtx c fun w =>
    if s.durationReached w && w.kind? = some .ripen then s.ripenUnmet c else s)

/-- The meaning of HOLD_POINT_LIMIT (R83). -/
def execHoldPointLimit (c : Slot) (s : State) : Result :=
  .next (s.whenRunning fun s => s.whenPhaseExpired c .holdpoint s.plant.holdLimit fun _ =>
    s.decideExit c (some .holdLimit) none)

/-- The exit travel timer of a context runs out (R136). -/
def State.exitTimerExpires (s : State) (c : Slot) : State :=
  s.withCtx c fun w =>
    match w.exitStart with
    | some t => if w.state = .exiting && s.expired t s.plant.travelLimit then s.failExit c else s
    | none => s

/-- The meaning of EXIT_TRAVEL_EXPIRY. -/
def execExitTravelExpiry (c : Slot) (s : State) : Result := .next (s.whenRunning fun s => s.exitTimerExpires c)

/-- The retrigger gap ends, and ATTN is driven while kinds are pending (R174). -/
def State.endGap (s : State) : State := { s with nu := NoticeUnit.updateAttn { s.nu with attnGap := false } }

/-- The meaning of ATTN_RETRIGGER_GAP_END. -/
def execAttnRetriggerGapEnd (s : State) : Result :=
  .next (s.whenRunning fun s => if s.nu.attnGap then s.endGap else s)

end Sys2Proof.Machine
end

