-- ==== Sys2Proof/Machine/BusCommands.lean ====
section
/-! DEFINITION. The meanings of the gallery bus commands (R143, R145, R146, R149, R153, R154). -/

namespace Sys2Proof.Machine

/-- The meaning of SCAN_PERIOD_EXPIRY (R143, R144). -/
def execScanPeriodExpiry (s : State) : Result := .next (s.whenRunning State.expirePeriod)

/-- The meaning of POLL (R146). -/
def execPoll (s : State) : Result := .next (s.whenRunning State.pollDue)

/-- The meaning of FILTER_INPUT_ANSWER (R153). -/
def execFilterInputAnswer (a : Answer) (s : State) : Result := .next (s.whenRunning fun s => s.takeAnswer a)

/-- The meaning of FILTER_TOTALIZER_ANSWER (R21). -/
def execFilterTotalizerAnswer (a : Answer) (s : State) : Result := .next (s.whenRunning fun s => s.takeAnswer a)

/-- The meaning of SUPPLY_NODE_ANSWER (R154). -/
def execSupplyNodeAnswer (a : Answer) (s : State) : Result := .next (s.whenRunning fun s => s.takeAnswer a)

/-- The meaning of MISSING_ANSWER (R149). -/
def execMissingAnswer (s : State) : Result := .next (s.whenRunning State.missAnswer)

end Sys2Proof.Machine
end

