-- ==== Sys2Proof/Machine/LinkCommands.lean ====
section
/-! DEFINITION. The meanings of the link commands: frames that are discarded or refused, the end of a reply, the end of a store
write (R160 to R165, R181). -/

namespace Sys2Proof.Machine

/-- The meaning of SYNC_BYTE_IN_HUNT (R160). -/
def execSyncByteInHunt (s : State) : Result :=
  .next (s.whenRunning fun s => if s.hlu.receiver = .hunt then s.startFrame else s)

/-- The meaning of FRAME_GAP: the partial frame is discarded, and the byte that ends the gap is taken in HUNT (R160;
log 38). -/
def execFrameGap (byte : Byte) (s : State) : Result :=
  .next (s.whenRunning fun s =>
    if s.hlu.receiver = .receiving then (if byte = 0xA5 then s.startFrame else s.toHunt) else s)

/-- The meaning of FRAME_LENGTH_OVER_240 (R160; log 38). -/
def execFrameLengthOver240 (length : Byte) (s : State) : Result :=
  .next (s.whenRunning fun s => if s.hlu.receiver = .receiving && 240 < length.toNat then s.toHunt else s)

/-- The meaning of FRAME_CRC_ERROR: a frame with a wrong CRC is discarded without reply (R161). -/
def execFrameCrcError (kind : Byte) (body : List Byte) (crc : BitVec 16) (s : State) : Result :=
  .next (if s.hears && crc != frameCrc kind body then s.toHunt else s)

/-- The meaning of FRAME_IN_BUSY: what is received in BUSY is discarded (R162). -/
def execFrameInBusy (s : State) : Result := .next s

/-- A kind byte that names no kind (R163). -/
def unknownKindByte (kind : Byte) : Bool := kind.toNat = 0 || 0x21 < kind.toNat

/-- The meaning of UNKNOWN_KIND: a well-formed frame whose kind byte names no kind is refused (R163, R164). -/
def execUnknownKind (kind : Byte) (body : List Byte) (s : State) : Result :=
  .next (if s.hears && unknownKindByte kind then
    (if 240 < body.length then s.toHunt else (s.frameTaken kind body).replyRefused kind (Refuse.of .unknownKind))
  else s)

/-- A reply is in the reply buffer and is being sent (R162). -/
def State.replying (s : State) : Bool := s.hlu.receiver = .busy && !s.hlu.txBuffer.isEmpty

/-- The last byte of a reply has been sent: the receiver returns to HUNT with both buffers empty, and a retrigger gap has ended
by then (R162, R174; log 23, 27). -/
def State.finishReply (s : State) : State :=
  { s with
    hlu := { s.hlu with receiver := .hunt, rxBuffer := [], txBuffer := [], restartPending := false }
    nu := NoticeUnit.updateAttn { s.nu with attnGap := false } }

/-- The meaning of REPLY_SENT; after the reply of RESTART the part resets (R165, R186). -/
def execReplySent (s : State) : Result :=
  .next (s.whenRunning fun s =>
    if s.replying then (if s.hlu.restartPending then s.finishReply.warmReset else s.finishReply) else s)

/-- The meaning of STORE_WRITE_COMPLETE: the store holds the image, and the COMMIT OK reply is sent (R181). -/
def execStoreWriteComplete (s : State) : Result :=
  .next (s.whenRunning fun s =>
    match s.cs.writing with
    | some image => { s with cs := { s.cs with store := some image, writing := none } }.replyOk .commit []
    | none => s)

end Sys2Proof.Machine
end

