-- ==== Sys2Proof/Machine/ReadCommands.lean ====
section
/-! DEFINITION. The meanings of the requests that read, and of the notice and node counters (R24, R43, R66, R72, R91, R113, R155,
R156, R167, R172, R173, R177, R180). -/

namespace Sys2Proof.Machine

/-- The filter a body names; RANGE outside 1 to 20. -/
def withFilter (body : List Byte) (g : FilterId → Decision) : Decision :=
  match filterOfNumber? (u8 body 0) with
  | some f => g f
  | none => refuse .range

/-- The context slot a body names; RANGE outside 0 to 3. -/
def withSlot (body : List Byte) (g : Slot → Decision) : Decision :=
  match slotOfNumber? (u8 body 0) with
  | some c => g c
  | none => refuse .range

/-- The meaning of IDENT (R167). -/
def execIdent (body : List Byte) (s : State) : Result := .next (s.receive .ident body fun s => accept s s.identBody)

/-- The meaning of STATUS (R66). -/
def execStatus (body : List Byte) (s : State) : Result := .next (s.receive .status body fun s => accept s s.statusBody)

/-- The meaning of FILTER-READ (R24). -/
def execFilterRead (body : List Byte) (s : State) : Result :=
  .next (s.receive .filterRead body fun s => withFilter body fun f => accept s (s.filterBody f))

/-- The meaning of PATTERN-READ (R24). -/
def execPatternRead (body : List Byte) (s : State) : Result :=
  .next (s.receive .patternRead body fun s => withFilter body fun f => accept s (s.patternBody f))

/-- The meaning of QUEUE-READ (R43). -/
def execQueueRead (body : List Byte) (s : State) : Result :=
  .next (s.receive .queueRead body fun s => accept s s.queueBody)

/-- The meaning of CONTEXT-READ (R91, R125). -/
def execContextRead (body : List Byte) (s : State) : Result :=
  .next (s.receive .contextRead body fun s => withSlot body fun c => accept s (s.contextBody c))

/-- The meaning of RESOURCE-READ (R113). -/
def execResourceRead (body : List Byte) (s : State) : Result :=
  .next (s.receive .resourceRead body fun s => accept s.drawMargins s.resourceBody)

/-- The meaning of NODE-READ (R155). -/
def execNodeRead (body : List Byte) (s : State) : Result :=
  .next (s.receive .nodeRead body fun s =>
    match nodeOfAddress? (u8 body 0) with
    | some n => accept s (s.nodeBody n)
    | none => refuse .range)

/-- The counters NODE-CLEAR sets to 0 (R156). -/
def State.clearCounters (s : State) : State :=
  { s with gbm := { s.gbm with
      links := mapEach (fun l => { l with totalMisses := 0 }) s.gbm.links
      scansWithMiss := 0
      overruns := 0 } }

/-- The meaning of NODE-CLEAR (R156). -/
def execNodeClear (body : List Byte) (s : State) : Result :=
  .next (s.receive .nodeClear body fun s =>
    accept s.clearCounters (be16 s.gbm.scansWithMiss ++ be16 s.gbm.overruns))

/-- The record at an age index: RANGE above 31, STATE where none is held (R177). -/
def State.readRecord (s : State) (i : Nat) : Decision :=
  if 31 < i then refuse .range
  else
    match s.wr.records[i]? with
    | some r => accept s (s.recordBody r)
    | none => refuse .state

/-- The meaning of RECORD-READ (R177). -/
def execRecordRead (body : List Byte) (s : State) : Result :=
  .next (s.receive .recordRead body fun s => s.readRecord (u8 body 0))

/-- The meaning of NOTICE-READ (R172). -/
def execNoticeRead (body : List Byte) (s : State) : Result :=
  .next (s.receive .noticeRead body fun s => accept s s.noticeBody)

/-- The set of notice kinds a body carries; bits not named are ignored (R168). -/
def noticeSet (body : List Byte) : BitVec 12 := BitVec.ofNat 12 (u16 body 0)

/-- The accounts of a set are cleared (R173). -/
def NoticeUnit.clearSet (u : NoticeUnit) (set : BitVec 12) : NoticeUnit :=
  { u with accounts := Vector.ofFn fun k => if set.getLsbD k.val then NoticeAccount.reset else u.accounts[k.val] }

/-- NOTICE-ACK: the set is cleared, and a retrigger gap starts when a kind is still pending (R173, R174). -/
def State.acknowledge (s : State) (set : BitVec 12) : State :=
  let u := s.nu.clearSet set
  { s with nu := NoticeUnit.updateAttn { u with attnGap := u.anyPending } }

/-- The meaning of NOTICE-ACK (R173). -/
def execNoticeAck (body : List Byte) (s : State) : Result :=
  .next (s.receive .noticeAck body fun s =>
    accept (s.acknowledge (noticeSet body)) (ackBody s.nu (s.acknowledge (noticeSet body)).nu (noticeSet body)))

/-- Change the working configuration. -/
def State.setWorking (s : State) (w : WorkingConfig) : State := { s with cs := { s.cs with working := w } }

/-- The meaning of NOTICE-ENABLE (R172). -/
def execNoticeEnable (body : List Byte) (s : State) : Result :=
  .next (s.receive .noticeEnable body fun s =>
    accept (s.setWorking { s.cs.working with enables := noticeSet body }) (be16 (noticeSet body).toNat))

/-- The meaning of PROFILE-READ (R72). -/
def execProfileRead (body : List Byte) (s : State) : Result :=
  .next (s.receive .profileRead body fun s =>
    match s.profile? (u8 body 0) with
    | some steps => accept s (s.profileReadBody (u8 body 0) steps)
    | none => refuse .range)

/-- The configuration a selector names (R180). -/
def State.readConfig (s : State) (selector : Nat) : Decision :=
  if selector = 0 then accept s s.plantConfigBody
  else
    match filterOfNumber? selector with
    | some f => accept s (s.filterConfigBody f)
    | none => refuse .range

/-- The meaning of CONFIG-READ (R180). -/
def execConfigRead (body : List Byte) (s : State) : Result :=
  .next (s.receive .configRead body fun s => s.readConfig (u8 body 0))

end Sys2Proof.Machine
end

