-- ==== Sys2Proof/Machine/PlantCommands.lean ====
section
/-! DEFINITION. The meanings of the requests that act on the plant: flow, queue, washes, filters, flags (R6, R7, R15, R16, R40, R47,
R59, R60, R84, R90, R102, R112, R129). -/

namespace Sys2Proof.Machine

/-! ### FLOW (R47) -/

/-- A flow report is taken. -/
def State.takeFlow (s : State) (v : Nat) : State :=
  State.recomputeRequired { s with au := { s.au with reportedFlow := v, arrival := some s.now, fresh := true } }

/-- The meaning of FLOW. -/
def execFlow (body : List Byte) (s : State) : Result :=
  .next (s.receive .flow body fun s =>
    if 20000 < u16 body 0 then refuse .range
    else accept (s.takeFlow (u16 body 0)) (s.takeFlow (u16 body 0)).flowBody)

/-! ### WASH and CANCEL (R40) -/

/-- The meaning of WASH. -/
def execWash (body : List Byte) (s : State) : Result :=
  .next (s.receive .wash body fun s => withFilter body fun f =>
    if s.queueable f then accept (s.request f .host) ((s.request f .host).washBody f) else refuse .state)

/-- The meaning of CANCEL. -/
def execCancel (body : List Byte) (s : State) : Result :=
  .next (s.receive .cancel body fun s => withFilter body fun f =>
    match s.entry? f with
    | some e => accept (s.removeEntry f) ((s.removeEntry f).cancelBody e)
    | none => refuse .state)

/-! ### START (R59, R60) -/

/-- The filter may be started: SERVICE or HELD, no trip, no drift, node not LOST. -/
def State.startable (s : State) (f : FilterId) : Bool :=
  s.queueable f && (s.filter f).trip.isNone && !(s.filter f).drift && !s.isLost (.filter f)

/-- START OK body: slot, class, cause set, admission time, demands. -/
def State.startBody (s : State) (c : Slot) : List Byte :=
  match s.ctx c with
  | some w =>
    be8 c.val ++ be8 w.cls.code ++ be8 w.causes.bits ++ secondsBytes w.admissionTime ++ be16 w.profile.waterDemand ++
      be16 w.profile.wasteDemand
  | none => []

/-- The tests of START from the slot gate on, and the admission. -/
def State.startWith (s : State) (f : FilterId) (number : Nat) (steps : List ProfileStep) : Decision :=
  if !s.slotGate then refuse .slots
  else if !s.floorGate then refuse .floor
  else if !s.supplyGate then refuse .supply
  else if !s.volumeTest steps then refuse .volume
  else
    match s.freeSlot? with
    | some c => accept (s.admitFilter f c number steps) ((s.admitFilter f c number steps).startBody c)
    | none => refuse .slots

/-- The decision of START. An unwritten filter configuration names no profile and is refused INVALID with index 0
(log 10). -/
def State.startFilter (s : State) (f : FilterId) : Decision :=
  if !s.startable f then refuse .state
  else
    match s.profileOf f with
    | none => .error ⟨.invalid, 0⟩
    | some p =>
      match failingIndex p.2 with
      | some i => .error ⟨.invalid, i⟩
      | none => s.startWith f p.1 p.2

/-- The meaning of START. -/
def execStart (body : List Byte) (s : State) : Result :=
  .next (s.receive .start body fun s => withFilter body fun f => s.startFilter f)

/-! ### CONTINUE (R84) and EXIT (R129) -/

/-- The context that names a filter, with its slot, when it is ACTIVE. -/
def State.activeWash (s : State) (f : FilterId) : Option (Slot × WashContext) :=
  match s.slotNaming f with
  | some c =>
    match s.ctx c with
    | some w => if w.state = .active then some (c, w) else none
    | none => none
  | none => none

/-- CONTINUE OK body: slot, index and kind of the step now begun, its phase. -/
def State.continueBody (s : State) (c : Slot) : List Byte :=
  match s.ctx c with
  | some w => be8 c.val ++ be8 w.stepIndex ++ be8 (kindCode w.kind?) ++ be8 w.phase.code
  | none => []

/-- The meaning of CONTINUE. -/
def execContinueWash (body : List Byte) (s : State) : Result :=
  .next (s.receive .continueWash body fun s => withFilter body fun f =>
    match s.activeWash f with
    | some (c, w) =>
      if w.phase = .holdpoint then
        accept (s.beginStep c (w.stepIndex + 1)) ((s.beginStep c (w.stepIndex + 1)).continueBody c)
      else refuse .state
    | none => refuse .state)

/-- EXIT OK body: slot, progress mark, exit kind, its pattern. -/
def exitBody (c : Slot) (w : WashContext) : List Byte :=
  let kind := exitKindFor w.progress (some .hostExit)
  be8 c.val ++ be8 w.progress.code ++ be8 kind.code ++ be8 kind.pattern.code

/-- The meaning of EXIT. -/
def execExit (body : List Byte) (s : State) : Result :=
  .next (s.receive .exit body fun s => withFilter body fun f =>
    match s.activeWash f with
    | some (c, w) => accept (s.decideExit c (some .hostExit) none) (exitBody c w)
    | none => refuse .state)

/-! ### RELEASE (R6) and ISOLATE (R7) -/

/-- RELEASE is accepted for a filter by its state. -/
def State.releasable (s : State) (f : FilterId) : Bool :=
  let r := s.filter f
  r.trip.isNone &&
    (match r.state with
      | .held => true
      | .service => r.pending.isSome
      | .unknown => !s.orphanNames f
      | _ => false)

/-- ISOLATE is accepted for a filter by its state. -/
def State.isolatable (s : State) (f : FilterId) : Bool :=
  match (s.filter f).state with
  | .service => true
  | .held => (s.filter f).pending.isSome
  | .unknown | .fault => !s.orphanNames f
  | _ => false

/-- The meaning of RELEASE. -/
def execRelease (body : List Byte) (s : State) : Result :=
  .next (s.receive .release body fun s => withFilter body fun f =>
    if s.releasable f then accept (s.startMovement f true) [] else refuse .state)

/-- The meaning of ISOLATE. -/
def execIsolate (body : List Byte) (s : State) : Result :=
  .next (s.receive .isolate body fun s => withFilter body fun f =>
    if s.isolatable f then accept (s.startMovement f false) [] else refuse .state)

/-! ### FREE (R112) -/

/-- One header of a context is freed, and granted onward. -/
def State.freeHeader (s : State) (c : Slot) (h : Header) : State :=
  if s.holds c h then (s.dropHolding c h).grantFreed h else s

/-- The effect of FREE on an ORPHAN context. -/
def State.freeForced (s : State) (c : Slot) : State :=
  (((s.freeHeader c .air).freeHeader c .wash).freeHeader c .ftw).freeOrphan c

/-- FREE OK body: slot, filter, headers released, tank and basin amounts released. -/
def State.freeBody (s : State) (c : Slot) (w : WashContext) : List Byte :=
  be8 c.val ++ be8 (filterNumber w.filter) ++ be8 (s.headersHeld c).bits ++ be16 (volumeOf w.tankRemaining) ++
    be16 (volumeOf w.basinRemaining)

/-- The meaning of FREE. -/
def execFree (body : List Byte) (s : State) : Result :=
  .next (s.receive .free body fun s => withSlot body fun c =>
    match s.ctx c with
    | some w => if w.state = .orphan then accept (s.freeForced c) (s.freeBody c w) else refuse .state
    | none => refuse .state)

/-! ### CLEAR (R15, R16, R102) -/

/-- The latched input is active in the latest valid input answer of the filter's node (R15). -/
def State.inputActive (s : State) (f : FilterId) (i : Fin 16) : Bool :=
  match (s.fnode f).input with
  | some x => x.word.getLsbD i.val
  | none => false

/-- CLEAR of a trip (R15). -/
def State.clearTripOf (s : State) (f : FilterId) : Decision :=
  match (s.filter f).trip with
  | none => refuse .state
  | some i => if s.inputActive f i then refuse .state else accept (s.modFilter f fun r => { r with trip := none }) []

/-- CLEAR of a drift flag (R15). -/
def State.clearDriftOf (s : State) (f : FilterId) : Decision :=
  if (s.filter f).drift then
    accept (s.modFilter f fun r => { r with drift := false, offCounts := PerValve.all false }) []
  else refuse .state

/-- CLEAR of a held condition (R16). -/
def State.clearHeldOf (s : State) (f : FilterId) : Decision :=
  if (s.filter f).state = .held && (s.filter f).held = some .dirty then
    accept (s.modFilter f fun r => { r with held := some .clean }) []
  else refuse .state

/-- CLEAR of a unit's equipment fault flag (R102). -/
def State.clearUnitOf (s : State) (p : SupplyPair) (u : UnitId) : Decision :=
  if (s.unitFaults p).has u then accept (s.setUnitFault p u false) [] else refuse .state

/-- The decision of CLEAR by its target code and filter number (R168; log 29). -/
def State.clearTarget (s : State) (target number : Nat) : Decision :=
  match clearUnitOf? target with
  | some (p, u) => if number = 0 then s.clearUnitOf p u else refuse .range
  | none =>
    match target, filterOfNumber? number with
    | 0, some f => s.clearTripOf f
    | 1, some f => s.clearDriftOf f
    | 2, some f => s.clearHeldOf f
    | _, _ => refuse .range

/-- A CLEAR frame with the given body. -/
def State.receiveClear (s : State) (body : List Byte) : State :=
  s.receive .clear body fun s => s.clearTarget (u8 body 0) (u8 body 1)

/-- The meaning of CLEAR with target trip (R15). -/
def execClearTrip (rest : List Byte) (s : State) : Result := .next (s.receiveClear (0 :: rest))

/-- The meaning of CLEAR with target drift (R15). -/
def execClearDrift (rest : List Byte) (s : State) : Result := .next (s.receiveClear (1 :: rest))

/-- The meaning of CLEAR with target held condition (R16). -/
def execClearHeldCondition (rest : List Byte) (s : State) : Result := .next (s.receiveClear (2 :: rest))

/-- The meaning of CLEAR with a unit target (R102). -/
def execClearUnit (body : List Byte) (s : State) : Result := .next (s.receiveClear body)

/-! ### TUNE (R90) -/

/-- Change a filter's configuration in the working configuration. -/
def State.setFilterConfig (s : State) (f : FilterId) (c : FilterConfig) : State :=
  s.setWorking { s.cs.working with filters := s.cs.working.filters.set f.val c }

/-- Replace the seven tunable fields; the masks are kept. -/
def State.tuneFilter (s : State) (f : FilterId) (c : FilterSettings) : State :=
  s.setFilterConfig f { s.filterConfig f with settings := some c }

/-- The meaning of TUNE (log 26 for the order of its tests). -/
def execTune (body : List Byte) (s : State) : Result :=
  .next (s.receive .tune body fun s => withFilter body fun f =>
    if (s.filter f).state = .unused then refuse .state
    else
      match settingsBody? body with
      | some c => accept (s.tuneFilter f c) ((s.tuneFilter f c).tuneBody c)
      | none => refuse .range)

end Sys2Proof.Machine
end

