-- ==== Sys2Proof/Machine/ConfigCommands.lean ====
section
/-! DEFINITION. The meanings of the requests on mode and configuration (R70, R178, R180, R181, R182, R186). -/

namespace Sys2Proof.Machine

/-! ### MODE (R178) -/

/-- The MODE decision for a target of the four modes (R178, R166). -/
def State.changeMode (s : State) (target : PartMode) : Decision :=
  match s.mc.mode, target with
  | .hold, .auto => accept (s.setMode .auto) (be8 PartMode.auto.code)
  | .auto, .hold => accept (s.setMode .hold) (be8 PartMode.hold.code)
  | .hold, .hold => accept s (be8 PartMode.hold.code)
  | .auto, .auto => accept s (be8 PartMode.auto.code)
  | .hold, .setup => if s.busySlots = 0 then accept (s.setMode .setup) (be8 PartMode.setup.code) else refuse .state
  | .auto, .setup | .hold, .survey | .auto, .survey => refuse .state
  | .setup, .hold =>
    match failingItem s.cs.working with
    | some i => .error ⟨.invalid, i⟩
    | none => accept s.leaveSetup (be8 PartMode.survey.code)
  | .setup, _ => refuse .mode
  | .survey, _ => refuse .mode

/-- The meaning of MODE. -/
def execMode (body : List Byte) (s : State) : Result :=
  .next (s.receive .mode body fun s =>
    match modeOfCode? (u8 body 0) with
    | some m => s.changeMode m
    | none => refuse .range)

/-! ### Configuration writes (R70, R180) -/

/-- Replace a profile of the working configuration. -/
def State.setProfile (s : State) (n : Fin 8) (steps : List ProfileStep) : State :=
  s.setWorking { s.cs.working with profiles := s.cs.working.profiles.set n.val steps }

/-- The meaning of PROFILE-WRITE (R70). -/
def execProfileWrite (body : List Byte) (s : State) : Result :=
  .next (s.receive .profileWrite body fun s =>
    match profileWriteBody? body with
    | some (n, steps) => accept (s.setProfile n steps) ((s.setProfile n steps).profileWriteBody n.val steps)
    | none => refuse .range)

/-- The meaning of FILTER-CONFIG (R180). -/
def execFilterConfig (body : List Byte) (s : State) : Result :=
  .next (s.receive .filterConfig body fun s => withFilter body fun f =>
    match settingsBody? body with
    | some c => accept (s.setFilterConfig f ⟨some c, BitVec.ofNat 16 (u16 body 14), BitVec.ofNat 16 (u16 body 16)⟩) []
    | none => refuse .range)

/-- A new working configuration; R is recomputed when the max filter flow or the fallback flow changes (R48). -/
def State.replaceWorking (s : State) (w : WorkingConfig) : State :=
  let same := decide (w.plant.maxFilterFlow = s.plant.maxFilterFlow ∧ w.plant.fallbackFlow = s.plant.fallbackFlow)
  if same then s.setWorking w else (s.setWorking w).recomputeRequired

/-- The meaning of PLANT-CONFIG (R180). -/
def execPlantConfig (body : List Byte) (s : State) : Result :=
  .next (s.receive .plantConfig body fun s =>
    match plantBody? body with
    | some p => accept (s.replaceWorking { s.cs.working with plant := p }) []
    | none => refuse .range)

/-! ### COMMIT, DISCARD, RESTART (R181, R186) -/

/-- The meaning of DISCARD (R181). The image is taken as COMMIT wrote it (log 43). -/
def execDiscard (body : List Byte) (s : State) : Result :=
  .next (s.receive .discard body fun s => accept (s.replaceWorking (s.cs.store.getD WorkingConfig.defaults)) [])

/-- A COMMIT that passes its tests starts the store write and has no reply yet (R162, R181). -/
def State.startCommit (s : State) : State := { s with cs := { s.cs with writing := some s.cs.working } }

/-- The decision of COMMIT on its validation (R181, R182). -/
def State.commitStore (s : State) : Decision :=
  match failingItem s.cs.working with
  | some i => .error ⟨.invalid, i⟩
  | none => accept s.startCommit []

/-- The answer of COMMIT: a refusal at once, the OK reply only at the write's completion. -/
def State.answerCommit (s : State) (d : Decision) : State :=
  match d with
  | .ok (t, _) => t
  | .error r => s.replyRefused (BitVec.ofNat 8 Kind.commit.code) r

/-- The meaning of COMMIT. -/
def execCommit (body : List Byte) (s : State) : Result :=
  .next (if s.hears then
    if 240 < body.length then s.toHunt
    else
      let s := s.frameTaken (BitVec.ofNat 8 Kind.commit.code) body
      s.answerCommit (judge s .commit body State.commitStore)
  else s)

/-- A RESTART is taken: its reset waits for the last byte of its reply (R165, R186). -/
def State.takeRestart (s : State) : State := { s with hlu := { s.hlu with restartPending := true } }

/-- The meaning of RESTART. -/
def execRestart (body : List Byte) (s : State) : Result :=
  .next (s.receive .restart body fun s => accept s.takeRestart [])

end Sys2Proof.Machine
end

