-- ==== Sys2Proof/Machine/Dispatch.lean ====
section
/-! DEFINITION. One arm for each command: its meaning. -/

namespace Sys2Proof.Machine

/-- The effect of a command on everything but the queue of waiting commands. -/
def exec (i : Instr) (s : State) : Host.Outcome State Fault Refusal :=
  match i with
  | .powerOn speedHigh => Sys2Proof.Machine.execPowerOn speedHigh s
  | .rstnTaken => Sys2Proof.Machine.execRstnTaken s
  | .pinReset speedHigh => Sys2Proof.Machine.execPinReset speedHigh s
  | .plantSecond => Sys2Proof.Machine.execPlantSecond s
  | .flowReportTimeout => Sys2Proof.Machine.execFlowReportTimeout s
  | .movementTravelLimit f => Sys2Proof.Machine.execMovementTravelLimit f s
  | .headerWaitLimit c => Sys2Proof.Machine.execHeaderWaitLimit c s
  | .settingTravelLimit c => Sys2Proof.Machine.execSettingTravelLimit c s
  | .startConfirmExpiry c p => Sys2Proof.Machine.execStartConfirmExpiry c p s
  | .rampWindowExpiry c => Sys2Proof.Machine.execRampWindowExpiry c s
  | .stepDurationExpiry c => Sys2Proof.Machine.execStepDurationExpiry c s
  | .ripenMaximumDuration c => Sys2Proof.Machine.execRipenMaximumDuration c s
  | .holdPointLimit c => Sys2Proof.Machine.execHoldPointLimit c s
  | .exitTravelExpiry c => Sys2Proof.Machine.execExitTravelExpiry c s
  | .scanPeriodExpiry => Sys2Proof.Machine.execScanPeriodExpiry s
  | .poll => Sys2Proof.Machine.execPoll s
  | .filterInputAnswer a => Sys2Proof.Machine.execFilterInputAnswer a s
  | .filterTotalizerAnswer a => Sys2Proof.Machine.execFilterTotalizerAnswer a s
  | .supplyNodeAnswer a => Sys2Proof.Machine.execSupplyNodeAnswer a s
  | .missingAnswer => Sys2Proof.Machine.execMissingAnswer s
  | .attnRetriggerGapEnd => Sys2Proof.Machine.execAttnRetriggerGapEnd s
  | .frameGap byte => Sys2Proof.Machine.execFrameGap byte s
  | .frameLengthOver240 length => Sys2Proof.Machine.execFrameLengthOver240 length s
  | .frameCrcError kind body crc => Sys2Proof.Machine.execFrameCrcError kind body crc s
  | .frameInBusy => Sys2Proof.Machine.execFrameInBusy s
  | .unknownKind kind body => Sys2Proof.Machine.execUnknownKind kind body s
  | .replySent => Sys2Proof.Machine.execReplySent s
  | .ident body => Sys2Proof.Machine.execIdent body s
  | .status body => Sys2Proof.Machine.execStatus body s
  | .flow body => Sys2Proof.Machine.execFlow body s
  | .filterRead body => Sys2Proof.Machine.execFilterRead body s
  | .queueRead body => Sys2Proof.Machine.execQueueRead body s
  | .contextRead body => Sys2Proof.Machine.execContextRead body s
  | .resourceRead body => Sys2Proof.Machine.execResourceRead body s
  | .nodeRead body => Sys2Proof.Machine.execNodeRead body s
  | .nodeClear body => Sys2Proof.Machine.execNodeClear body s
  | .recordRead body => Sys2Proof.Machine.execRecordRead body s
  | .noticeRead body => Sys2Proof.Machine.execNoticeRead body s
  | .noticeAck body => Sys2Proof.Machine.execNoticeAck body s
  | .noticeEnable body => Sys2Proof.Machine.execNoticeEnable body s
  | .mode body => Sys2Proof.Machine.execMode body s
  | .wash body => Sys2Proof.Machine.execWash body s
  | .cancel body => Sys2Proof.Machine.execCancel body s
  | .start body => Sys2Proof.Machine.execStart body s
  | .continueWash body => Sys2Proof.Machine.execContinueWash body s
  | .release body => Sys2Proof.Machine.execRelease body s
  | .isolate body => Sys2Proof.Machine.execIsolate body s
  | .free body => Sys2Proof.Machine.execFree body s
  | .clearTrip rest => Sys2Proof.Machine.execClearTrip rest s
  | .clearDrift rest => Sys2Proof.Machine.execClearDrift rest s
  | .clearHeldCondition rest => Sys2Proof.Machine.execClearHeldCondition rest s
  | .clearUnit body => Sys2Proof.Machine.execClearUnit body s
  | .tune body => Sys2Proof.Machine.execTune body s
  | .exit body => Sys2Proof.Machine.execExit body s
  | .profileWrite body => Sys2Proof.Machine.execProfileWrite body s
  | .profileRead body => Sys2Proof.Machine.execProfileRead body s
  | .filterConfig body => Sys2Proof.Machine.execFilterConfig body s
  | .plantConfig body => Sys2Proof.Machine.execPlantConfig body s
  | .configRead body => Sys2Proof.Machine.execConfigRead body s
  | .commit body => Sys2Proof.Machine.execCommit body s
  | .storeWriteComplete => Sys2Proof.Machine.execStoreWriteComplete s
  | .discard body => Sys2Proof.Machine.execDiscard body s
  | .restart body => Sys2Proof.Machine.execRestart body s
  | .patternRead body => Sys2Proof.Machine.execPatternRead body s
  | .syncByteInHunt => Sys2Proof.Machine.execSyncByteInHunt s
  | .powerLoss => Sys2Proof.Machine.execPowerLoss s

end Sys2Proof.Machine
end

