-- ==== Sys2Proof/Safety.lean ====
section
/-! DEFINITION. What the spec says holds at every moment: the laws that the blocks keep (R32, R33, R53, R63, R74, R92, R106, R109,
R146, R149, R174, R176). A law is a proposition on one state; that every step keeps it is an obligation or left to be
stated. -/

namespace Sys2Proof.Safety

open Sys2Proof.Machine

/-! ### Gallery bus (R149) -/

/-- A node is LOST exactly when its consecutive misses equal the miss limit, which they never exceed (R149). -/
def linkOk (limit : Nat) (l : NodeLink) : Prop := l.misses ≤ limit ∧ (l.lost = true ↔ l.misses = limit)

/-- Every node of the table obeys R149 for the miss limit in use. -/
def NodeLaw (s : State) : Prop := ∀ n : Fin 23, linkOk s.gbm.settings.missLimit s.gbm.links[n.val]

/-- The miss limit of a configuration is not 0 (R180: 2 to 15). -/
def limitOk (w : WorkingConfig) : Prop := 0 < w.plant.missLimit

/-- The miss limit in use, and that of every configuration that a reset or leaving SETUP can take. -/
def LimitLaw (s : State) : Prop :=
  0 < s.gbm.settings.missLimit ∧ limitOk s.cs.working ∧ (∀ w ∈ s.cs.store, limitOk w) ∧ (∀ w ∈ s.cs.writing, limitOk w)

/-! ### Notices and records (R171, R174, R176) -/

/-- While the part runs, ATTN is driven exactly when a kind is pending and no retrigger gap runs (R174). -/
def AttnLaw (s : State) : Prop := s.mc.power = .running → s.nu.attnDriven = (s.nu.anyPending && !s.nu.attnGap)

/-- The count of every kind stays within 0 to 255 (R171). -/
def CountLaw (s : State) : Prop := ∀ k : Fin 12, (s.nu.accounts[k.val]).count ≤ 255

/-- The list holds at most 32 records (R176). -/
def RecordLaw (s : State) : Prop := s.wr.records.length ≤ 32

/-! ### Headers and commitments (R92, R106) -/

/-- No header has more holdings than its capacity (R92). -/
def CapacityLaw (s : State) : Prop := ∀ h : Header, (s.header h).holdings.length ≤ h.capacity

/-- A context's remaining tank commitment; 0 when it is FREE (R73). -/
def tankOf : Option WashContext → Int
  | some w => w.tankRemaining
  | none => 0

/-- A context's remaining basin commitment. -/
def basinOf : Option WashContext → Int
  | some w => w.basinRemaining
  | none => 0

/-- The sum of a quantity over the four contexts. -/
def sumSlots (s : State) (g : Option WashContext → Int) : Int := g (s.ctx 0) + g (s.ctx 1) + g (s.ctx 2) + g (s.ctx 3)

/-- The commitment totals are the sums of the remaining commitments of all contexts that are not FREE (R106). -/
def CommitmentLaw (s : State) : Prop := s.ra.tankTotal = sumSlots s tankOf ∧ s.ra.basinTotal = sumSlots s basinOf

/-- Every holder and every waiter is a context that is not FREE, and no header names a context twice (R92). -/
def HolderLaw (s : State) : Prop :=
  ∀ h : Header, ((s.header h).holdings.map fun x => x.slot).Nodup ∧ (s.header h).waiting.Nodup ∧
    ∀ c : Slot, s.holds c h = true ∨ c ∈ (s.header h).waiting → (s.ctx c).isSome = true

/-! ### Queue (R32, R33) -/

/-- The entries stand in the order of R33, no two for one filter. -/
def QueueLaw (s : State) : Prop :=
  s.wq.entries.Pairwise fun a b => entryBefore a b = true ∧ a.filter ≠ b.filter

/-- Every entry names a filter in SERVICE or HELD (R32). -/
def EntryLaw (s : State) : Prop := ∀ e ∈ s.wq.entries, s.queueable e.filter = true

/-! ### Filters and contexts (R53, R63, R74, R109) -/

/-- A context is ACTIVE or EXITING. -/
def washing (x : Option WashContext) : Bool :=
  match x with
  | some w => w.state != .orphan
  | none => false

/-- A context names a filter. -/
def names (x : Option WashContext) (f : FilterId) : Bool :=
  match x with
  | some w => w.filter = f
  | none => false

/-- A filter is in WASH exactly when an ACTIVE or EXITING context names it, and no two contexts name one filter (R74). -/
def WashLaw (s : State) : Prop :=
  (∀ f : FilterId, (s.filter f).state = .wash ↔ ∃ c : Slot, washing (s.ctx c) = true ∧ names (s.ctx c) f = true) ∧
    ∀ c d : Slot, ∀ f : FilterId, names (s.ctx c) f = true → names (s.ctx d) f = true → c = d

/-- Every ORPHAN context names a filter in UNKNOWN, FAULT or LOCAL (R109). -/
def OrphanLaw (s : State) : Prop :=
  ∀ f : FilterId, s.orphanNames f = true →
    (s.filter f).state = .unknown ∨ (s.filter f).state = .fault ∨ (s.filter f).state = .localCtl

/-- The contexts that are not FREE never exceed MAX_OUT, and in SETUP all are FREE (R53). -/
def SlotLaw (s : State) : Prop := s.busySlots ≤ s.plant.maxOut ∧ (s.mc.mode = .setup → s.busySlots = 0)

/-- The shed list has no duplicates, and each slot in it is EXITING with an exit kind other than SAFE-EXIT (R63). -/
def ShedLaw (s : State) : Prop :=
  s.au.shed.Nodup ∧ ∀ c ∈ s.au.shed, ∃ w, s.ctx c = some w ∧ w.state = .exiting ∧ w.exitKind ≠ some .safeExit

/-- During SURVEY, the poll that awaits its answer was a READ_IO (R158). -/
def SurveyLaw (s : State) : Prop :=
  s.mc.mode = .survey → ∀ n code, s.gbm.phase = .awaiting n code → code = .readIo

/-! ### Safe runs -/

/-- A step that goes on. -/
def goesOn (s : State) : Prop := ∃ t, step s = .next t

end Sys2Proof.Safety
end

