-- ==== Sys2Proof/Certificates/Slice0/Obligations.lean ====
section
/-! DEFINITION. The statements for the provers, from the numbered rules of spec/. `Sys2Proof.Claim` holds the vocabulary they
share; a next state is written out as a change of the state before, so that everything it does not name is unchanged. -/

namespace Sys2Proof.Claim

open Sys2Proof.Machine Sys2Proof.Safety

/-! ### Vocabulary of the host link -/

/-- The part runs: VDD is present and RSTN is not held (R184). -/
def Running (s : State) : Prop := s.mc.power = .running

/-- The part runs and its receiver is not BUSY, so that a whole frame is taken (R162). -/
def Ready (s : State) : Prop := Running s ∧ s.hlu.receiver ≠ .busy

/-- The kind byte of a request, and that of its OK reply (R164). -/
def kindByte (k : Kind) : Byte := BitVec.ofNat 8 k.code

/-- As `kindByte`, with the top bit set. -/
def okByte (k : Kind) : Byte := BitVec.ofNat 8 (k.code + 128)

/-- A well-formed frame stands in the receive buffer and the receiver is BUSY (R160, R161). -/
def heard (s : State) (kind : Byte) (body : List Byte) : State :=
  { s with hlu := { s.hlu with receiver := .busy, rxBuffer := frameStored kind body } }

/-- As `heard`, for a request of a known kind. -/
def taken (s : State) (k : Kind) (body : List Byte) : State := heard s (kindByte k) body

/-- A reply frame stands in the reply buffer. -/
def replied (t : State) (kind : Byte) (body : List Byte) : State :=
  { t with hlu := { t.hlu with txBuffer := frameBytes kind body } }

/-- The OK reply of a kind has been formed. -/
def granted (t : State) (k : Kind) (body : List Byte) : State := replied t (okByte k) body

/-- A request has been refused: three bytes, the kind code, the reason code and the item index; nothing else changes (R163,
R164). -/
def refused (s : State) (k : Kind) (body : List Byte) (r : Reason) (index : Nat) : State :=
  replied (taken s k body) 0xFF [kindByte k, BitVec.ofNat 8 r.code, BitVec.ofNat 8 index]

/-- The receiver is in HUNT with an empty buffer. -/
def hunting (s : State) : State := { s with hlu := { s.hlu with receiver := .hunt, rxBuffer := [] } }

/-- The receiver is in RECEIVING with an empty buffer. -/
def receiving (s : State) : State := { s with hlu := { s.hlu with receiver := .receiving, rxBuffer := [] } }

/-- The request a command carries: its kind and the bytes of its body. -/
def request : Instr → Option (Kind × List Byte)
  | .ident b => some (.ident, b)
  | .status b => some (.status, b)
  | .flow b => some (.flow, b)
  | .filterRead b => some (.filterRead, b)
  | .queueRead b => some (.queueRead, b)
  | .contextRead b => some (.contextRead, b)
  | .resourceRead b => some (.resourceRead, b)
  | .nodeRead b => some (.nodeRead, b)
  | .nodeClear b => some (.nodeClear, b)
  | .recordRead b => some (.recordRead, b)
  | .noticeRead b => some (.noticeRead, b)
  | .noticeAck b => some (.noticeAck, b)
  | .noticeEnable b => some (.noticeEnable, b)
  | .mode b => some (.mode, b)
  | .wash b => some (.wash, b)
  | .cancel b => some (.cancel, b)
  | .start b => some (.start, b)
  | .continueWash b => some (.continueWash, b)
  | .release b => some (.release, b)
  | .isolate b => some (.isolate, b)
  | .free b => some (.free, b)
  | .clearTrip r => some (.clear, 0 :: r)
  | .clearDrift r => some (.clear, 1 :: r)
  | .clearHeldCondition r => some (.clear, 2 :: r)
  | .clearUnit b => some (.clear, b)
  | .tune b => some (.tune, b)
  | .exit b => some (.exit, b)
  | .profileWrite b => some (.profileWrite, b)
  | .profileRead b => some (.profileRead, b)
  | .filterConfig b => some (.filterConfig, b)
  | .plantConfig b => some (.plantConfig, b)
  | .configRead b => some (.configRead, b)
  | .commit b => some (.commit, b)
  | .discard b => some (.discard, b)
  | .restart b => some (.restart, b)
  | .patternRead b => some (.patternRead, b)
  | _ => none

/-- Every mode. -/
def anyMode : List PartMode := [.survey, .setup, .hold, .auto]

/-- The kind code table of R168 and the mode acceptance table of R166: kind, code, body length (none where the body gives
it), modes. -/
def kindTable : List (Kind × Nat × Option Nat × List PartMode) :=
  [(.ident, 0x01, some 0, anyMode), (.status, 0x02, some 0, anyMode), (.flow, 0x03, some 2, anyMode),
    (.filterRead, 0x04, some 1, anyMode), (.queueRead, 0x05, some 0, anyMode), (.contextRead, 0x06, some 1, anyMode),
    (.resourceRead, 0x07, some 0, anyMode), (.nodeRead, 0x08, some 1, anyMode)] ++
  [(.nodeClear, 0x09, some 0, [.setup, .hold, .auto]), (.recordRead, 0x0A, some 1, anyMode),
    (.noticeRead, 0x0B, some 0, anyMode), (.noticeAck, 0x0C, some 2, anyMode), (.noticeEnable, 0x0D, some 2, anyMode),
    (.mode, 0x0E, some 1, [.setup, .hold, .auto]), (.wash, 0x0F, some 1, [.hold, .auto]),
    (.cancel, 0x10, some 1, [.hold, .auto])] ++
  [(.start, 0x11, some 1, [.hold]), (.continueWash, 0x12, some 1, [.hold, .auto]), (.release, 0x13, some 1, [.hold, .auto]),
    (.isolate, 0x14, some 1, [.hold, .auto]), (.free, 0x15, some 1, [.hold, .auto]), (.clear, 0x16, some 2, [.hold, .auto]),
    (.tune, 0x17, some 14, [.hold, .auto]), (.profileWrite, 0x18, none, [.setup])] ++
  [(.profileRead, 0x19, some 1, anyMode), (.filterConfig, 0x1A, some 18, [.setup]), (.plantConfig, 0x1B, some 41, [.setup]),
    (.configRead, 0x1C, some 1, anyMode), (.commit, 0x1D, some 0, [.setup]), (.discard, 0x1E, some 0, [.setup]),
    (.restart, 0x1F, some 0, anyMode), (.patternRead, 0x20, some 1, anyMode), (.exit, 0x21, some 1, [.hold, .auto])]

/-- A field stands in a body from a byte position on. -/
def HasAt (body : List Byte) (pos : Nat) (field : List Byte) : Prop := (body.drop pos).take field.length = field

/-- The one-byte body that names a filter. -/
def filterByte (f : FilterId) : Byte := BitVec.ofNat 8 (f.val + 1)

/-- The one-byte body that names a slot. -/
def slotByte (c : Slot) : Byte := BitVec.ofNat 8 c.val

/-- A byte that names no filter. -/
def NoFilter (b : Byte) : Prop := b.toNat = 0 ∨ 20 < b.toNat

end Sys2Proof.Claim

/-! ### The machine -/

open Sys2Proof Sys2Proof.Machine Sys2Proof.Safety Sys2Proof.Claim

/-- The block's step takes the command at the front of its queue and runs it with the queue's rest; on an empty queue it
idles, which is the model's choice (log 2). -/
def Obligations.StepRunsFrontCommand : Prop :=
  (∀ (c : Instr) (rest : List Instr) (s : State),
    step { s with pending := c :: rest } = exec c { s with pending := rest }) ∧
  ∀ s : State, s.pending = [] → step s = .next s

/-- Every command goes on to a next state, and leaves the queue of waiting commands alone; a poll that has not come due does
nothing, which is the model's choice (log 1). -/
def Obligations.EveryCommandGoesOn : Prop :=
  (∀ (c : Instr) (s : State), ∃ t, exec c s = .next t ∧ t.pending = s.pending) ∧
    ∀ s : State, (∀ n, s.gbm.phase ≠ .due n) → exec .poll s = .next s

/-- While RSTN is held or VDD is absent the part takes nothing but power and pin events (R184; the gate over every event is
the model's, log 5), and taking RSTN or losing power ends poll, reply, frame and store write and releases ATTN (R157, R160,
R181). GDE is inactive then (R157); while the part runs it is active from a poll to the end of its transaction, which is the
model's choice (log 40). -/
def Obligations.HaltedPartTakesNothing : Prop :=
  (∀ (c : Instr) (s : State), s.mc.power ≠ .running → (∀ h, c ≠ .powerOn h) → (∀ h, c ≠ .pinReset h) → c ≠ .powerLoss →
    exec c s = .next s) ∧
  (∀ (h : Bool) (s : State), s.mc.power = .off → exec (.pinReset h) s = .next s) ∧
  ∀ s : State,
    let halted := fun p : Power =>
      { s with
        mc := { s.mc with power := p }
        hlu := { s.hlu with receiver := .hunt, rxBuffer := [], txBuffer := [], restartPending := false }
        cs := { s.cs with store := if s.cs.writing.isSome then none else s.cs.store, writing := none }
        gbm := { s.gbm with phase := .idle }
        nu := { s.nu with attnDriven := false, attnGap := false } }
    exec .powerLoss s = .next (halted .off) ∧ (Running s → exec .rstnTaken s = .next (halted .held)) ∧
    (s.mc.power ≠ .running → s.gdeActive = false) ∧
    (Running s → (s.gdeActive = true ↔ ∃ n code, s.gbm.phase = .awaiting n code))

namespace Sys2Proof.Claim

/-! ### Reset -/

/-- The state after a reset, every block at its reset values and the store loaded (R184 with R23, R26, R44, R46, R73, R92,
R93, R106, R141, R160, R171, R174, R176, R179, R183, R185): `store` is the store as the reset finds it. -/
def afterReset (s : State) (store : Option WorkingConfig) (seconds : Seconds) (fast : Bool) (records : RecordList) : State :=
  let w := store.getD WorkingConfig.defaults
  let n := w.plant.filterCount
  { pending := s.pending
    mc := { power := .running, mode := if store.isSome then .survey else .setup, seconds := seconds, surveyProgress := 0 }
    hlu := { receiver := .hunt, rxBuffer := [], txBuffer := [], restartPending := false, fastLink := fast }
    cs := { store := store, writing := none, working := w }
    gbm :=
      { links := Vector.replicate 23
          { lost := false, misses := 0, totalMisses := 0, lastCode := none, status := none, lastAnswer := none }
        filterNodes := Vector.replicate 20
          { image := PerValve.all false, owed := false, sent := none, input := none, totalizer := none, changeSet := 0 }
        washNode := { image := ⟨false, false, 0⟩, owed := false, sent := none, input := none }
        airNode := { image := ⟨false, false⟩, owed := false, sent := none, input := none }
        wasteInput := none
        settings := ⟨n, w.plant.scanPeriod, w.plant.replyWindow, w.plant.missLimit⟩
        scanCount := 0
        scansWithMiss := 0
        overruns := 0
        cursor := if n = 0 then none else some 0
        phase := .due (if n = 0 then .washWater else .filter 0)
        periodExpired := false
        scanMissed := false }
    ft := { records := Vector.ofFn fun f => FilterRecord.reset (if f.val < n then .unknown else .unused) }
    te := { triggers := Vector.replicate 20 Triggers.armed }
    wq := { entries := [], changeNumber := 0 }
    au :=
      { reportedFlow := 0
        arrival := none
        fresh := false
        required := requiredFor w.plant.fallbackFlow w.plant.maxFilterFlow
        breach := false
        lastAdmission := none
        shed := []
        lastCheck := .notRun }
    ss := { contexts := Vector.replicate 4 none }
    ra :=
      { headers := ⟨⟨[], []⟩, ⟨[], []⟩, ⟨[], []⟩⟩
        pumpDuty := .a
        blowerDuty := .a
        pumpFault := ⟨false, false⟩
        blowerFault := ⟨false, false⟩
        tankTotal := 0
        basinTotal := 0 }
    nu :=
      { accounts :=
          if store.isSome then Vector.replicate 12 ⟨false, 0, 0⟩
          else (Vector.replicate 12 ⟨false, 0, 0⟩).set 3 ⟨true, 1, 0⟩
        attnDriven := store.isNone
        attnGap := false
        tankWatch := ⟨none, false⟩
        basinWatch := ⟨none, false⟩ }
    wr := records
    free := s.free }

/-- The store as a reset from outside finds it: a write that is cut leaves a bad CRC (R181). -/
def storeFound (s : State) : Option WorkingConfig := if s.cs.writing.isSome then none else s.cs.store

/-- The records that RESTART writes, with the cause fields of each context that is ACTIVE or EXITING, in slot order (R186). -/
def interrupted (s : State) : List (WashContext × Option FaultCause × Option FaultCause) :=
  allSlots.filterMap fun c =>
    match s.ctx c with
    | some w =>
      match w.state with
      | .active => some (w, some .resetInterrupted, none)
      | .exiting => some (w, w.cause, some .resetInterrupted)
      | .orphan => none
    | none => none

/-- The record list after one more record (R176). -/
def oneRecord (l : RecordList) (r : BitVec 16 → WashRecord) : RecordList :=
  ⟨(r l.nextSequence :: l.records).take 32, l.nextSequence + 1⟩

/-- The record of a context's wash at plant seconds `now` (R176). -/
def recordFor (w : WashContext) (now : Seconds) (outcome : WashOutcome) (cause second : Option FaultCause)
    (snapshot : Option Snapshot) (sequence : BitVec 16) : WashRecord :=
  { sequence := sequence, filter := w.filter, profile := w.profile.number, cls := w.cls, causes := w.causes,
    admissionTime := w.admissionTime, endTime := now, outcome := outcome, reduced := w.reduced,
    secondAttempt := w.secondAttempt, waterPlanned := w.profile.waterDemand, cause := cause, secondCause := second,
    ripenResult := w.ripenResult, snapshot := snapshot }

/-- The record list that RESTART keeps. -/
def recordsKept (s : State) : RecordList :=
  (interrupted s).foldl (fun l x => oneRecord l (recordFor x.1 s.now .resetInterrupted x.2.1 x.2.2 none)) s.wr

/-! ### Laws -/

/-- The context in a slot is ACTIVE in a phase. -/
def InPhase (s : State) (c : Slot) (w : WashContext) (p : Phase) : Prop :=
  s.ctx c = some w ∧ w.state = .active ∧ w.phase = p

/-- The header table law: no header has more holdings than its capacity, nor two of one context; holders are contexts that
are not FREE; waiters are ACTIVE contexts in ACQUIRE, each once, in one list, and not holding the header they await (R92,
R94). -/
def HeaderTableLaw (s : State) : Prop :=
  ∀ h : Header,
    (s.header h).holdings.length ≤ h.capacity ∧ ((s.header h).holdings.map fun x => x.slot).Nodup ∧
    (s.header h).waiting.Nodup ∧ (∀ c, s.holds c h = true → s.ctx c ≠ none) ∧
    ∀ c ∈ (s.header h).waiting, (∃ w, InPhase s c w .acquire) ∧ s.holds c h = false ∧
      ∀ g, g ≠ h → c ∉ (s.header g).waiting

/-- What WASH and orphans ask of the filters and the modes: a filter in WASH, or named by an ORPHAN context, has no movement
of the FT in travel, and in SURVEY and SETUP every context is FREE (R19, R12, R53, R185). -/
def QuietLaw (s : State) : Prop :=
  (∀ f : FilterId, (s.filter f).state = .wash ∨ s.orphanNames f = true → (s.filter f).pending = none) ∧
    (s.mc.mode = .survey ∨ s.mc.mode = .setup → ∀ c, s.ctx c = none)

end Sys2Proof.Claim

/-- POWER_ON, and PIN_RESET while VDD is present, give every block its reset values: plant seconds 0, SPEED sampled, the
record list empty, the store loaded, or the defaults with FAULT raised for filter 0 (R184, R179). The values that no rule
gives are the model's (log 3). -/
def Obligations.ResetsGiveEveryBlockItsValues : Prop :=
  ∀ (h : Bool) (s : State),
    exec (.powerOn h) s = .next (afterReset s (storeFound s) 0 h ⟨[], 0⟩) ∧
    (s.mc.power ≠ .off → exec (.pinReset h) s = .next (afterReset s (storeFound s) 0 h ⟨[], 0⟩))

/-- The laws of Safety.lean, the header table law and the quiet law hold at reset: all that the statements on every step take
as premises. State.reset itself is the model's where the spec gives no value (log 3). -/
def Obligations.LawsHoldAtReset : Prop :=
  NodeLaw State.reset ∧ LimitLaw State.reset ∧ AttnLaw State.reset ∧ CountLaw State.reset ∧ RecordLaw State.reset ∧
    CapacityLaw State.reset ∧ CommitmentLaw State.reset ∧ HolderLaw State.reset ∧ QueueLaw State.reset ∧
    EntryLaw State.reset ∧ WashLaw State.reset ∧ OrphanLaw State.reset ∧ SlotLaw State.reset ∧ ShedLaw State.reset ∧
    SurveyLaw State.reset ∧ HeaderTableLaw State.reset ∧ QuietLaw State.reset

/-! ### The host link -/

/-- What is received in BUSY is discarded, whole frames included, and the request in hand is not touched (R162). -/
def Obligations.BusyReceiverDiscards : Prop :=
  ∀ s : State, s.hlu.receiver = .busy →
    (∀ i k body, request i = some (k, body) → exec i s = .next s) ∧
    exec .frameInBusy s = .next s ∧ exec .syncByteInHunt s = .next s ∧
    (∀ b, exec (.frameGap b) s = .next s) ∧ (∀ n, exec (.frameLengthOver240 n) s = .next s) ∧
    (∀ kind body crc, exec (.frameCrcError kind body crc) s = .next s) ∧
    ∀ kind body, exec (.unknownKind kind body) s = .next s

/-- The receiver starts a frame on A5h in HUNT, and discards a partial frame on a gap or a length above 240 and a frame with
a wrong CRC, without a reply (R160, R161). These clauses are the model's: FRAME_GAP carries the byte after the gap (log 38);
FRAME_GAP and FRAME_LENGTH_OVER_240 in HUNT, and SYNC_BYTE_IN_HUNT in RECEIVING, do nothing (log 1); a frame row is a whole
frame, taken in HUNT too (log 4), and a wrong CRC ends in HUNT; the buffer is then empty (log 27). -/
def Obligations.BadFramesAreDiscarded : Prop :=
  ∀ s : State, Running s →
    (s.hlu.receiver = .hunt →
      exec .syncByteInHunt s = .next (receiving s) ∧ (∀ b, exec (.frameGap b) s = .next s) ∧
        ∀ n, exec (.frameLengthOver240 n) s = .next s) ∧
    (s.hlu.receiver = .receiving →
      exec .syncByteInHunt s = .next s ∧ exec (.frameGap 0xA5) s = .next (receiving s) ∧
        (∀ b, b ≠ 0xA5 → exec (.frameGap b) s = .next (hunting s)) ∧
        (∀ n : Byte, 240 < n.toNat → exec (.frameLengthOver240 n) s = .next (hunting s))) ∧
    (s.hlu.receiver ≠ .busy →
      ∀ kind body crc, crc ≠ frameCrc kind body → exec (.frameCrcError kind body crc) s = .next (hunting s))

/-- A well-formed frame is tested for its kind, its body length and the part mode, in that order, by the tables of R168 and
R166; a refusal changes no state of the part (R163, R164). A body above 240 bytes is discarded without a reply (R160); that a
request row is a whole frame, taken in HUNT and in RECEIVING, is the model's (log 4), and so is the emptied buffer (log 27). -/
def Obligations.RequestsAreTestedInOrder : Prop :=
  ((∀ k : Kind, ∃ row ∈ kindTable, row.1 = k) ∧
    ∀ row ∈ kindTable,
      row.1.code = row.2.1 ∧ (∀ m, row.1.accepted m = true ↔ m ∈ row.2.2.2) ∧
        ∀ body, row.1.bodyLength body = row.2.2.1.getD (2 + 10 * u8 body 1)) ∧
  ∀ s : State, Ready s →
    (∀ (kind : Byte) (body : List Byte), body.length ≤ 240 → kind.toNat = 0 ∨ 0x21 < kind.toNat →
      exec (.unknownKind kind body) s = .next (replied (heard s kind body) 0xFF [kind, 1, 0])) ∧
    ∀ i k body, request i = some (k, body) →
      (240 < body.length → exec i s = .next (hunting s)) ∧
      (body.length ≤ 240 → body.length ≠ k.bodyLength body → exec i s = .next (refused s k body .length 0)) ∧
      (body.length ≤ 240 → body.length = k.bodyLength body → k.accepted s.mc.mode = false →
        exec i s = .next (refused s k body .mode 0))

/-- The last byte of a reply returns the receiver to HUNT and ends a retrigger gap; after the reply of RESTART the part
resets, its interrupted washes recorded, with plant seconds, link rate and records kept (R162, R165, R174, R186). That the
last byte of a reply ends the gap is the model's reading (log 23), that REPLY_SENT does nothing while no reply is being sent
its choice (log 1), and the emptied buffers too (log 27). -/
def Obligations.ReplySentAndRestart : Prop :=
  ∀ s : State,
    (Ready s → exec (.restart []) s =
      .next (granted (let t := taken s .restart []; { t with hlu := { t.hlu with restartPending := true } }) .restart [])) ∧
    (Running s → s.hlu.receiver = .busy → s.hlu.txBuffer ≠ [] →
      (s.hlu.restartPending = false → exec .replySent s =
        .next { s with
          hlu := { receiver := .hunt, rxBuffer := [], txBuffer := [], restartPending := false, fastLink := s.hlu.fastLink }
          nu := { s.nu with attnGap := false, attnDriven := s.nu.anyPending } }) ∧
      (s.hlu.restartPending = true → exec .replySent s =
        .next (afterReset s s.cs.store s.now s.hlu.fastLink (recordsKept s)))) ∧
    (s.hlu.receiver ≠ .busy ∨ s.hlu.txBuffer = [] → exec .replySent s = .next s)

namespace Sys2Proof.Claim

/-- An item of the working configuration fails validation (R182). -/
def itemFails (w : WorkingConfig) (i : Nat) : Prop :=
  (i = 1 ∧ w.plant.filterCount < 2) ∨ (i = 3 ∧ w.plant.maxFilterFlow = none) ∨ (i = 4 ∧ w.plant.fallbackFlow = none) ∨
    (i = 7 ∧ w.plant.tankReserve = none) ∨ (i = 8 ∧ w.plant.basinReserve = none) ∨
    (i = 22 ∧ w.plant.tankThreshold = none) ∨ (i = 23 ∧ w.plant.basinThreshold = none) ∨
    ∃ f : FilterId, i = 40 + (f.val + 1) ∧ f.val + 1 ≤ w.plant.filterCount ∧ (w.filters[f.val]).settings = none

end Sys2Proof.Claim

/-- COMMIT refuses an invalid working configuration with its first failing item, and starts the store write of a valid one;
STORE_WRITE_COMPLETE stores the image and sends the OK reply (R181, R182). That it does nothing while no write is in progress
is the model's (log 1). -/
def Obligations.CommitWritesTheStore : Prop :=
  (∀ w : WorkingConfig,
    (failingItem w = none ↔ ∀ i, ¬ itemFails w i) ∧
    ∀ i, failingItem w = some i ↔ itemFails w i ∧ ∀ j < i, ¬ itemFails w j) ∧
  ∀ s : State,
    (Ready s → s.mc.mode = .setup →
      (failingItem s.cs.working = none → exec (.commit []) s =
        .next (let t := taken s .commit []; { t with cs := { t.cs with writing := some s.cs.working } })) ∧
      ∀ i, failingItem s.cs.working = some i → exec (.commit []) s = .next (refused s .commit [] .invalid i)) ∧
    (Running s → ∀ image, s.cs.writing = some image → exec .storeWriteComplete s =
      .next (granted { s with cs := { s.cs with store := some image, writing := none } } .commit [])) ∧
    (s.cs.writing = none → exec .storeWriteComplete s = .next s)

namespace Sys2Proof.Claim

/-! ### Vocabulary of the plant -/

/-- The first valve, in the order INF, EFF, WST, WWI, AIR, FTW, that a view does not show in its position in a pattern; INF
when no valid input answer has been taken since the timer started (R5, R79, R136). -/
def offender (p : Pattern) (answered : Bool) (view : PerValve ValveView) : Valve :=
  if answered then
    (([.inf, .eff, .wst, .wwi, .air, .ftw] : List Valve).find? fun v =>
      view.get v ≠ (if p.opens v then .opened else .closed)).getD .inf
  else .inf

/-- The exit kind by progress mark and cause (R127). -/
def exitBy : Progress → Option FaultCause → ExitKind
  | _, some .trip => .safeExit
  | .none, _ => .returnExit
  | .airwaterBegun, _ => .safeExit
  | .washed, _ => .lateExit

/-- The pattern of an exit kind (R127). -/
def exitPattern : ExitKind → Pattern
  | .returnExit => .service
  | .safeExit => .isolated
  | .lateExit => .service

/-- What an exit decision makes of the context `w` in slot `c` (R128, R139, R98). -/
def exitContext (s : State) (c : Slot) (w : WashContext) (k : ExitKind) (cause : Option FaultCause) (valve : Option Valve) :
    WashContext :=
  { w with
    state := .exiting
    exitKind := some k
    cause := cause
    secondCause := none
    causeValve := valve
    stepItems := some ⟨w.stepIndex, w.kind?, w.phase, s.now - w.stepStart⟩
    valveItems :=
      if k = .safeExit then
        some ⟨(s.fnode w.filter).image, (s.filter w.filter).view, ⟨s.holds c .air, s.holds c .wash, s.holds c .ftw⟩⟩
      else none
    airSupply := if s.holds c .air then .stopped else w.airSupply
    washSupply := if s.holds c .wash then .stopped else w.washSupply
    setpoint := if s.holds c .wash then 0 else w.setpoint
    windowStart := none
    lowFlowStart := none
    exitStart := some s.now
    answered := false }

/-- A header's entry without a slot in its wait list. -/
def notWaiting (c : Slot) (e : HeaderEntry) : HeaderEntry := { e with waiting := e.waiting.filter fun x => x != c }

/-- The state after an exit of kind `k` has been decided for the context `w` in slot `c`: the context is EXITING, its
filter's image and commanded pattern are the exit pattern, it stands in no wait list, and the supplies of the headers it
holds are at stop (R128). -/
def exitState (s : State) (c : Slot) (w : WashContext) (k : ExitKind) (cause : Option FaultCause) (valve : Option Valve) :
    State :=
  { s with
    ss := { contexts := s.ss.contexts.set c.val (some (exitContext s c w k cause valve)) }
    ft := { records := s.ft.records.set w.filter.val { s.filter w.filter with commanded := some (exitPattern k) } }
    gbm := { s.gbm with
      filterNodes := s.gbm.filterNodes.set w.filter.val
        { s.fnode w.filter with image := (exitPattern k).image, owed := true }
      airNode :=
        if s.holds c .air then { s.gbm.airNode with image := ⟨false, false⟩, owed := true } else s.gbm.airNode
      washNode :=
        if s.holds c .wash then { s.gbm.washNode with image := ⟨false, false, 0⟩, owed := true } else s.gbm.washNode }
    ra := { s.ra with headers :=
      ⟨notWaiting c s.ra.headers.air, notWaiting c s.ra.headers.wash, notWaiting c s.ra.headers.ftw⟩ } }

/-- An exit decided for an ACTIVE context by its progress mark and a cause (R126, R127). -/
def exitFor (s : State) (c : Slot) (w : WashContext) (cause : FaultCause) (valve : Option Valve) : State :=
  exitState s c w (exitBy w.progress (some cause)) (some cause) valve

/-- Plant seconds have reached a start time plus a limit, the difference taken modulo 2^32 (R183; log 6). -/
def Expired (s : State) (start : Seconds) (limit : Nat) : Prop := limit ≤ (s.mc.seconds - start).toNat

/-- Steps 1 and 2 of a step end (R82): the planned volumes leave the commitments, and the mark becomes WASHED at the last
water step. -/
def volumesLeft (s : State) (c : Slot) (w : WashContext) (p : PlannedStep) : State :=
  { s with
    ss := { contexts := s.ss.contexts.set c.val (some { w with
      tankRemaining := w.tankRemaining - p.water
      basinRemaining := w.basinRemaining - p.waste
      progress := if w.stepIndex = w.profile.lastWater then .washed else w.progress
      lowFlowStart := none }) }
    ra := { s.ra with tankTotal := s.ra.tankTotal - p.water, basinTotal := s.ra.basinTotal - p.waste } }

/-- Step 3 of a step end (R82, R83): HOLDPOINT, with the supplies of the headers held at stop. -/
def holdState (s : State) (c : Slot) (w : WashContext) (p : PlannedStep) : State :=
  let t := volumesLeft s c w p
  { t with
    ss := { contexts := s.ss.contexts.set c.val (some { w with
      tankRemaining := w.tankRemaining - p.water
      basinRemaining := w.basinRemaining - p.waste
      progress := if w.stepIndex = w.profile.lastWater then .washed else w.progress
      lowFlowStart := none
      phase := .holdpoint
      phaseStart := s.now
      airSupply := if s.holds c .air then .stopped else w.airSupply
      washSupply := if s.holds c .wash then .stopped else w.washSupply
      setpoint := if s.holds c .wash then 0 else w.setpoint }) }
    gbm := { s.gbm with
      airNode :=
        if s.holds c .air then { s.gbm.airNode with image := ⟨false, false⟩, owed := true } else s.gbm.airNode
      washNode :=
        if s.holds c .wash then { s.gbm.washNode with image := ⟨false, false, 0⟩, owed := true } else s.gbm.washNode } }

/-- What follows the end of the step `p` of context `w`: HOLDPOINT or the next step (R82). -/
def stepEnded (s : State) (c : Slot) (w : WashContext) (p : PlannedStep) : State :=
  if p.step.holdPoint then holdState s c w p else (volumesLeft s c w p).beginStep c (w.stepIndex + 1)

end Sys2Proof.Claim

/-! ### The clock and the timers -/

/-- Each plant second advances the count, which wraps, and the run seconds of every filter in SERVICE, which saturate (R183,
R20). -/
def Obligations.PlantSecondAdvances : Prop :=
  ∀ s : State, Running s →
    exec .plantSecond s = .next { s with
      mc := { s.mc with seconds := s.mc.seconds + 1 }
      ft := { records := s.ft.records.map fun r =>
        if r.state = .service then { r with runSeconds := if r.runSeconds < 2 ^ 32 - 1 then r.runSeconds + 1 else 2 ^ 32 - 1 }
        else r } }

/-- FLOW above 20 000 is refused RANGE; otherwise the report is taken, the flow is FRESH, R is recomputed and the floor
evaluated (R47). When the report timeout runs out, the flow goes STALE with FLOW-STALE raised; R is the least count of
filters that carries the flow in use (R48). The order of the reply's fields is the model's (log 21); so are that the timeout
does nothing before it is due or while STALE (log 1), and R at 0 without a fallback flow (log 12). -/
def Obligations.FlowIsReportedAndGoesStale : Prop :=
  (∀ q m : Nat, 0 < m →
    q ≤ requiredFor (some q) (some m) * m ∧ ∀ n, q ≤ n * m → requiredFor (some q) (some m) ≤ n) ∧
  ∀ s : State,
    (Ready s → ∀ a b : Byte,
      let v := a.toNat * 256 + b.toNat
      (20000 < v → exec (.flow [a, b]) s = .next (refused s .flow [a, b] .range 0)) ∧
      (v ≤ 20000 →
        let t := State.evalFloor { taken s .flow [a, b] with
          au := { s.au with
            reportedFlow := v
            arrival := some s.now
            fresh := true
            required := requiredFor (some v) s.plant.maxFilterFlow } }
        exec (.flow [a, b]) s =
          .next (granted t .flow ([0] ++ be16 t.au.required ++ be8 t.serviceCount ++ be8 (if t.au.breach then 1 else 0))))) ∧
    (Running s → ∀ start, s.au.fresh = true → s.au.arrival = some start →
      (Expired s start s.plant.flowTimeout → exec .flowReportTimeout s =
        .next ((State.evalFloor { s with
          au := { s.au with
            fresh := false
            required := requiredFor s.plant.fallbackFlow s.plant.maxFilterFlow } }).raise .flowStale 0)) ∧
      (¬ Expired s start s.plant.flowTimeout → exec .flowReportTimeout s = .next s)) ∧
    (s.au.fresh = false → exec .flowReportTimeout s = .next s)

/-- When the travel limit of a filter's movement runs out, the filter goes to FAULT with VALVE-TRAVEL and the valve named,
the commanded pattern becomes the target, the movement is removed and FAULT is raised; before, nothing happens (R5). That
the command does nothing before it is due is the model's (log 1). -/
def Obligations.MovementFailsAtTheTravelLimit : Prop :=
  ∀ (f : FilterId) (s : State),
    (Running s → ∀ m, (s.filter f).pending = some m →
      let p : Pattern := if m.toService then .service else .isolated
      (Expired s m.start s.plant.travelLimit → exec (.movementTravelLimit f) s =
        .next (((s.modFilter f fun r => { r with
          held := none
          commanded := some p
          pending := none
          fault := some ⟨.valveTravel, some (offender p m.answered r.view)⟩ }).changeState f .fault).raise .fault
            (f.val + 1))) ∧
      (¬ Expired s m.start s.plant.travelLimit → exec (.movementTravelLimit f) s = .next s)) ∧
    ((s.filter f).pending = none → exec (.movementTravelLimit f) s = .next s)

/-- The limits of ACQUIRE, SETTING and HOLDPOINT decide an exit with HEADER-WAIT, VALVE-TRAVEL with the valve named, and
HOLD-LIMIT; away from the phase, or before the limit, nothing happens (R76, R78, R79, R83, R128). That the command does
nothing before it is due is the model's (log 1). -/
def Obligations.PhaseLimitsDecideExits : Prop :=
  ∀ (c : Slot) (s : State), Running s →
    (∀ w, InPhase s c w .acquire → Expired s w.phaseStart s.plant.headerWait →
      exec (.headerWaitLimit c) s = .next (exitFor s c w .headerWait none)) ∧
    (∀ w, InPhase s c w .setting → Expired s w.phaseStart s.plant.travelLimit →
      exec (.settingTravelLimit c) s =
        .next (exitFor s c w .valveTravel (some (offender w.pattern w.answered (s.filter w.filter).view)))) ∧
    (∀ w, InPhase s c w .holdpoint → Expired s w.phaseStart s.plant.holdLimit →
      exec (.holdPointLimit c) s = .next (exitFor s c w .holdLimit none)) ∧
    ((∀ w, InPhase s c w .acquire → ¬ Expired s w.phaseStart s.plant.headerWait) → exec (.headerWaitLimit c) s = .next s) ∧
    ((∀ w, InPhase s c w .setting → ¬ Expired s w.phaseStart s.plant.travelLimit) →
      exec (.settingTravelLimit c) s = .next s) ∧
    ((∀ w, InPhase s c w .holdpoint → ¬ Expired s w.phaseStart s.plant.holdLimit) → exec (.holdPointLimit c) s = .next s)

/-- The ramp window takes the step's fallback once, and then decides an exit with FLOW-LOW (R103, R104). That the command
does nothing before it is due is the model's (log 1). -/
def Obligations.RampWindowFallsBackOnce : Prop :=
  ∀ (c : Slot) (s : State) (w : WashContext) (start : Seconds),
    Running s → InPhase s c w .ramping → w.windowStart = some start →
    (¬ Expired s start s.plant.rampWindow → exec (.rampWindowExpiry c) s = .next s) ∧
    (Expired s start s.plant.rampWindow →
      (w.fallbackFlow ≠ 0 → w.fallbackUsed = false → exec (.rampWindowExpiry c) s =
        .next { s with
          gbm := { s.gbm with washNode := { s.gbm.washNode with
            image := { s.gbm.washNode.image with setpoint := w.fallbackFlow }
            owed := true } }
          ss := { contexts := s.ss.contexts.set c.val (some { w with
            setpoint := w.fallbackFlow
            windowStart := some s.now
            fallbackUsed := true
            reduced := true }) } }) ∧
      (w.fallbackFlow = 0 ∨ w.fallbackUsed = true →
        exec (.rampWindowExpiry c) s = .next (exitFor s c w .flowLow none)))

/-- When the start confirm time of a unit runs out, the unit is flagged and EQUIPMENT raised; an untried and unflagged other
unit is tried, and otherwise the supply becomes STOPPED and an ACTIVE context exits with the cause of the pair (R100). That
the command does nothing before it is due is the model's (log 1). -/
def Obligations.StartExpiryTriesTheStandby : Prop :=
  ∀ (c : Slot) (p : SupplyPair) (s : State) (w : WashContext) (u : UnitId) (tried : UnitSet) (start : Seconds),
    Running s → s.ctx c = some w → w.supply p = .starting u tried start →
    let other := if u = .a then UnitId.b else UnitId.a
    let flagged := (s.setUnitFault p u true).raise .equipment 0
    (¬ Expired s start s.plant.startConfirm → exec (.startConfirmExpiry c p) s = .next s) ∧
    (Expired s start s.plant.startConfirm →
      (tried.has other = false → (s.unitFaults p).has other = false → exec (.startConfirmExpiry c p) s =
        .next ((flagged.writeUnits p ⟨other = .a, other = .b⟩).setCtx c
          (some (w.setSupply p (.starting other ⟨true, true⟩ s.now))))) ∧
      (tried.has other = true ∨ (s.unitFaults p).has other = true →
        let stopped := (flagged.writeUnits p ⟨false, false⟩).setCtx c (some (w.setSupply p .stopped))
        (w.state = .active → exec (.startConfirmExpiry c p) s =
          .next (exitFor stopped c (w.setSupply p .stopped)
            (match p with | .blowers => .blowerStart | .pumps => .pumpStart) none)) ∧
        (w.state ≠ .active → exec (.startConfirmExpiry c p) s = .next stopped)))

/-- A step other than RIPEN ends when TIMING has run for its duration: its volumes leave the commitments, the mark becomes
WASHED at the last water step, and HOLDPOINT or the next step follows (R82). That the command does nothing before it is due
is the model's (log 1). -/
def Obligations.StepEndsAtItsDuration : Prop :=
  ∀ (c : Slot) (s : State) (w : WashContext) (p : PlannedStep),
    Running s → InPhase s c w .timing → w.planned? = some p →
    (¬ Expired s w.phaseStart p.step.duration → exec (.stepDurationExpiry c) s = .next s) ∧
    (p.step.kind = .ripen → exec (.stepDurationExpiry c) s = .next s) ∧
    (p.step.kind ≠ .ripen → Expired s w.phaseStart p.step.duration →
      exec (.stepDurationExpiry c) s = .next (stepEnded s c w p))

/-- A RIPEN step at its maximum duration is UNMET: at rewash count 0 the step ends and RETURN follows, at count 1 the
ineffective end is decided, a SAFE-EXIT without a cause (R117, R120). That the command does nothing before it is due is the
model's (log 1). -/
def Obligations.RipenEndsUnmetAtItsMaximum : Prop :=
  ∀ (c : Slot) (s : State) (w : WashContext) (p : PlannedStep),
    Running s → InPhase s c w .timing → w.planned? = some p →
    (¬ Expired s w.phaseStart p.step.duration → exec (.ripenMaximumDuration c) s = .next s) ∧
    (p.step.kind ≠ .ripen → exec (.ripenMaximumDuration c) s = .next s) ∧
    (p.step.kind = .ripen → Expired s w.phaseStart p.step.duration →
      let w' := { w with ripenResult := .unmet }
      (w.secondAttempt = false → exec (.ripenMaximumDuration c) s = .next (stepEnded s c w' p)) ∧
      (w.secondAttempt = true → exec (.ripenMaximumDuration c) s =
        .next (let t := volumesLeft s c w' p
          exitState t c { w' with
            tankRemaining := w.tankRemaining - p.water
            basinRemaining := w.basinRemaining - p.waste
            progress := if w.stepIndex = w.profile.lastWater then .washed else w.progress
            lowFlowStart := none } .safeExit none none)))

namespace Sys2Proof.Claim

/-- The fault snapshot of a record, the valves and headers captured now (R138, R139). -/
def snapshotNow (s : State) (c : Slot) (w : WashContext) (step : StepItems) : Snapshot :=
  ⟨step, (s.fnode w.filter).image, (s.filter w.filter).view, ⟨s.holds c .air, s.holds c .wash, s.holds c .ftw⟩⟩

/-- The step items as they stand (R138). -/
def stepNow (s : State) (w : WashContext) : StepItems := ⟨w.stepIndex, w.kind?, w.phase, s.now - w.stepStart⟩

/-- A header's entry in which a slot does not wait and its holding is ORPHAN (R109). -/
def orphaned (c : Slot) (e : HeaderEntry) : HeaderEntry where
  holdings := e.holdings.map fun x => if x.slot = c then { x with orphan := true } else x
  waiting := e.waiting.filter fun x => x != c

/-- Steps 1 to 4 of a failed exit (R136): the filter in FAULT, the record written, FAULT and WASH-EXIT raised. -/
def exitFailed (s : State) (c : Slot) (w : WashContext) (k : ExitKind) : State :=
  let t := ((s.modFilter w.filter fun r => { r with
    fault := some ⟨.valveTravel, some (offender (exitPattern k) w.answered r.view)⟩
    commanded := some (exitPattern k) }).changeState w.filter .fault).raise .fault (w.filter.val + 1)
  { t with
    wr := oneRecord s.wr (recordFor w s.now .faulted w.cause (some .valveTravel) (w.stepItems.map (snapshotNow s c w)))
  }.raise .washExit (w.filter.val + 1)

end Sys2Proof.Claim

/-- When the exit's travel timer runs out, the exit fails: FAULT with the valve named, a FAULTED record, FAULT and
WASH-EXIT; the context becomes ORPHAN while it holds a header, and is freed with its commitments otherwise (R136). That the
command does nothing before it is due is the model's (log 1). -/
def Obligations.ExitFailsAtTheTravelLimit : Prop :=
  ∀ (c : Slot) (s : State) (w : WashContext) (k : ExitKind) (start : Seconds),
    Running s → s.ctx c = some w → w.state = .exiting → w.exitKind = some k → w.exitStart = some start →
    (¬ Expired s start s.plant.travelLimit → exec (.exitTravelExpiry c) s = .next s) ∧
    (Expired s start s.plant.travelLimit →
      let t := exitFailed s c w k
      ((∀ h, s.holds c h = false) → exec (.exitTravelExpiry c) s =
        .next { t with
          ss := { contexts := s.ss.contexts.set c.val none }
          ra := { s.ra with
            headers := ⟨notWaiting c s.ra.headers.air, notWaiting c s.ra.headers.wash, notWaiting c s.ra.headers.ftw⟩
            tankTotal := s.ra.tankTotal - w.tankRemaining
            basinTotal := s.ra.basinTotal - w.basinRemaining }
          au := { t.au with shed := t.au.shed.filter fun x => x != c } }) ∧
      ((∃ h, s.holds c h = true) → exec (.exitTravelExpiry c) s =
        .next { t with
          ss := { contexts := s.ss.contexts.set c.val (some { w with
            state := .orphan
            secondCause := some .valveTravel
            exitStart := none
            windowStart := none
            lowFlowStart := none }) }
          ra := { s.ra with
            headers := ⟨orphaned c s.ra.headers.air, orphaned c s.ra.headers.wash, orphaned c s.ra.headers.ftw⟩ }
          au := { t.au with shed := t.au.shed.filter fun x => x != c } }))

/-- NOTICE-ACK clears the accounts of its set and replies with them as they stood and with what is still pending; a
retrigger gap follows when something is, at whose end ATTN is driven (R173, R174). The order of the reply's fields is the
model's (log 21), and so is that ATTN_RETRIGGER_GAP_END does nothing outside a gap (log 1). -/
def Obligations.NoticesAreAcknowledged : Prop :=
  ∀ s : State,
    (Ready s → ∀ a b : Byte,
      let set := BitVec.ofNat 12 (a.toNat * 256 + b.toNat)
      let left : Vector NoticeAccount 12 :=
        Vector.ofFn fun k => if set.getLsbD k.val then ⟨false, 0, 0⟩ else s.nu.accounts[k.val]
      let bits := ((List.finRange 12).map fun k => if (left[k.val]).pending then 2 ^ k.val else 0).sum
      exec (.noticeAck [a, b]) s =
        .next (granted { taken s .noticeAck [a, b] with
          nu := { s.nu with accounts := left, attnGap := decide (∃ k : Fin 12, (left[k.val]).pending = true), attnDriven := false } }
          .noticeAck
          (((List.finRange 12).filter fun k => set.getLsbD k.val).flatMap (fun k =>
            [BitVec.ofNat 8 (s.nu.accounts[k.val]).count, BitVec.ofNat 8 (s.nu.accounts[k.val]).lastFilter]) ++ be16 bits))) ∧
    (Running s →
      (s.nu.attnGap = true → exec .attnRetriggerGapEnd s = .next { s with
        nu := { s.nu with attnGap := false, attnDriven := decide (∃ k : Fin 12, (s.nu.accounts[k.val]).pending = true) } }) ∧
      (s.nu.attnGap = false → exec .attnRetriggerGapEnd s = .next s))

namespace Sys2Proof.Claim

/-! ### Vocabulary of the washes -/

/-- The headers a step kind needs, in the order they are asked for (R76, R78). -/
def headersOf : Option StepKind → List Header
  | some .air => [.air]
  | some .airwater => [.air, .wash]
  | some .water => [.wash]
  | some .ripen => [.ftw]
  | _ => []

/-- The pattern of a step kind; SERVICE for RETURN (R76). -/
def patternOf : Option StepKind → Pattern
  | some .drain => .drain
  | some .air => .air
  | some .airwater => .airwater
  | some .water => .water
  | some .settle => .settle
  | some .refill => .refill
  | some .ripen => .ripen
  | none => .service

/-- The kind of the step at an index of a context's copy; none for RETURN. -/
def kindAt (w : WashContext) (i : Nat) : Option StepKind := (w.profile.steps[i]?).map fun p => p.step.kind

/-- A context at the beginning of a step (R77). -/
def begun (s : State) (w : WashContext) (i : Nat) : WashContext :=
  { w with
    stepIndex := i, phase := .acquire, stepStart := s.now, phaseStart := s.now, fallbackUsed := false, answered := false }

/-- A context is put in a slot. -/
def inSlot (s : State) (c : Slot) (w : WashContext) : State := { s with ss := { contexts := s.ss.contexts.set c.val (some w) } }

/-- The step at an index begins and enters SETTING at once: its pattern is written, and an AIR, AIRWATER or WATER step moves
the progress mark from NONE (R75, R77, R79). -/
def settingFrom (s : State) (c : Slot) (w : WashContext) (i : Nat) : State :=
  let k := kindAt w i
  let t := inSlot s c { begun s w i with
    phase := .setting
    progress :=
      if w.progress = .none ∧ (k = some .air ∨ k = some .airwater ∨ k = some .water) then .airwaterBegun else w.progress }
  { t with
    ft := { records := s.ft.records.set w.filter.val { s.filter w.filter with commanded := some (patternOf k) } }
    gbm := { s.gbm with
      filterNodes := s.gbm.filterNodes.set w.filter.val
        { s.fnode w.filter with image := (patternOf k).image, owed := true } } }

/-- The node that feeds a header is LOST (R94). -/
def FeedLost (s : State) : Header → Prop
  | .air => (s.link .airNode).lost = true
  | .wash => (s.link .washWater).lost = true
  | .ftw => False

/-- An exit decided for the context in a slot, if it is ACTIVE (R126, R135). -/
def exitIfActive (s : State) (c : Slot) (cause : FaultCause) (valve : Option Valve) : State :=
  match s.ctx c with
  | some w => if w.state = .active then exitFor s c w cause valve else s
  | none => s

/-- A context has a header granted: a HELD holding at the end, and no place in the wait list (R95). -/
def grantedHeader (s : State) (c : Slot) (h : Header) : State :=
  let e : HeaderEntry :=
    { holdings := (s.header h).holdings ++ [⟨c, false⟩], waiting := (s.header h).waiting.filter fun x => x != c }
  { s with ra := { s.ra with headers := match h with
    | .air => { s.ra.headers with air := e }
    | .wash => { s.ra.headers with wash := e }
    | .ftw => { s.ra.headers with ftw := e } } }

/-- A context at the tail of a header's wait list (R94). -/
def waitingFor (s : State) (c : Slot) (h : Header) : State :=
  let e : HeaderEntry := { s.header h with waiting := (s.header h).waiting ++ [c] }
  { s with ra := { s.ra with headers := match h with
    | .air => { s.ra.headers with air := e }
    | .wash => { s.ra.headers with wash := e }
    | .ftw => { s.ra.headers with ftw := e } } }

/-- A holding of a context is removed (R97, R110). -/
def withoutHolding (s : State) (c : Slot) (h : Header) : State :=
  let e : HeaderEntry := { s.header h with holdings := (s.header h).holdings.filter fun x => x.slot != c }
  { s with ra := { s.ra with headers := match h with
    | .air => { s.ra.headers with air := e }
    | .wash => { s.ra.headers with wash := e }
    | .ftw => { s.ra.headers with ftw := e } } }

/-- The context `w` in a slot enters SETTING of the step it stands at (R75, R79). -/
def enteredSetting (s : State) (c : Slot) (w : WashContext) : State :=
  let k := kindAt w w.stepIndex
  let t := inSlot s c { w with
    phase := .setting
    phaseStart := s.now
    answered := false
    progress :=
      if w.progress = .none ∧ (k = some .air ∨ k = some .airwater ∨ k = some .water) then .airwaterBegun else w.progress }
  { t with
    ft := { records := s.ft.records.set w.filter.val { s.filter w.filter with commanded := some (patternOf k) } }
    gbm := { s.gbm with
      filterNodes := s.gbm.filterNodes.set w.filter.val
        { s.fnode w.filter with image := (patternOf k).image, owed := true } } }

/-- The supply of a pair is at stop, in the node's image and in the context `w` (R98). -/
def supplyAtStop (s : State) (c : Slot) (w : WashContext) : SupplyPair → State
  | .blowers =>
    { inSlot s c { w with airSupply := .stopped } with
      gbm := { s.gbm with airNode := { s.gbm.airNode with image := ⟨false, false⟩, owed := true } } }
  | .pumps =>
    { inSlot s c { w with washSupply := .stopped, setpoint := 0 } with
      gbm := { s.gbm with washNode := { s.gbm.washNode with image := ⟨false, false, 0⟩, owed := true } } }

/-- The context `w` in slot `c` loses its holding of a header, whose supply is at stop; the FTW channel has none (R97, R98). -/
def headerLeft (s : State) (c : Slot) (w : WashContext) : Header → State
  | .air => supplyAtStop (withoutHolding s c .air) c w .blowers
  | .wash => supplyAtStop (withoutHolding s c .wash) c w .pumps
  | .ftw => withoutHolding s c .ftw

/-! ### Vocabulary of supplies and flow -/

/-- The pairs that a step kind needs, the blowers first (R76, R80). -/
def pairsOf : Option StepKind → List SupplyPair
  | some .air => [.blowers]
  | some .airwater => [.blowers, .pumps]
  | some .water => [.pumps]
  | _ => []

/-- The unit that a start takes: the duty unit, or the other when the duty unit is flagged; none when both are (R99). -/
def unitFor (s : State) (p : SupplyPair) : Option UnitId :=
  let duty := match p with | .blowers => s.ra.blowerDuty | .pumps => s.ra.pumpDuty
  let flags := match p with | .blowers => s.ra.blowerFault | .pumps => s.ra.pumpFault
  let other := if duty = .a then UnitId.b else UnitId.a
  if flags.has duty = false then some duty else if flags.has other = false then some other else none

/-- The run feedback of a unit in the latest valid answer of its node; inactive before the first (R107). -/
def runs (s : State) : SupplyPair → UnitId → Bool
  | .blowers, u => (s.gbm.airNode.input.map fun i => if u = .a then i.a else i.b).getD false
  | .pumps, u => (s.gbm.washNode.input.map fun i => if u = .a then i.a else i.b).getD false

/-- The cause of an exit when a pair cannot be started (R100). -/
def startCauseOf : SupplyPair → FaultCause
  | .blowers => .blowerStart
  | .pumps => .pumpStart

/-- A unit is written to run and the other to stop, and the supply is STARTING with it since now (R99, R100). -/
def startingWith (s : State) (c : Slot) (w : WashContext) (p : SupplyPair) (u : UnitId) (tried : UnitSet) : State :=
  (s.writeUnits p ⟨u = .a, u = .b⟩).setCtx c (some (w.setSupply p (.starting u tried s.now)))

/-- A supply that a step needs is taken on entry to STARTING: one that is STOPPED is started, or decides an exit (R99,
R100). -/
def supplyTaken (s : State) (c : Slot) (p : SupplyPair) : State :=
  match s.ctx c with
  | some w =>
    if w.state = .active ∧ w.supply p = .stopped then
      match unitFor s p with
      | some u => startingWith s c w p u ⟨u = .a, u = .b⟩
      | none => exitFor s c w (startCauseOf p) none
    else s
  | none => s

/-- A context in TIMING since now (R81, R105, R115). -/
def timed (s : State) (w : WashContext) : WashContext :=
  { w with
    phase := .timing, phaseStart := s.now, offCounts := PerValve.all false
    windowStart := none, lowFlowStart := none, sustainStart := none }

/-- The context in a slot enters TIMING. -/
def inTiming (s : State) (c : Slot) (w : WashContext) : State := inSlot s c (timed s w)

/-- A context in RAMPING since now, its flow target written as the setpoint (R81, R103). -/
def inRamping (s : State) (c : Slot) (w : WashContext) : State :=
  { inSlot s c { w with
      phase := .ramping, phaseStart := s.now, setpoint := w.flowTarget, windowStart := some s.now } with
    gbm := { s.gbm with washNode := { s.gbm.washNode with
      image := { s.gbm.washNode.image with setpoint := w.flowTarget }, owed := true } } }

/-- STARTING is left when every supply the step needs is RUNNING: AIR enters TIMING, AIRWATER and WATER enter RAMPING
(R80). -/
def onceRunning (s : State) (c : Slot) : State :=
  match s.ctx c with
  | some w =>
    let k := kindAt w w.stepIndex
    if w.state = .active ∧ w.phase = .starting ∧ (∀ p ∈ pairsOf k, (w.supply p).isRunning = true) then
      if k = some .air then inTiming s c w else inRamping s c w
    else s
  | none => s

/-- A context enters STARTING (R80, R99). -/
def inStarting (s : State) (c : Slot) (w : WashContext) : State :=
  let t := inSlot s c { w with phase := .starting, phaseStart := s.now }
  onceRunning ((pairsOf (kindAt w w.stepIndex)).foldl (fun t p => supplyTaken t c p) t) c

/-- The header flow of node 21's latest valid answer; 0 before the first. -/
def flowNow (s : State) : Nat := (s.gbm.washNode.input.map fun i => i.flow).getD 0

/-- The duty pointer of a pair names a unit (R100). -/
def onDuty (s : State) (p : SupplyPair) (u : UnitId) : State :=
  { s with ra := match p with
    | .blowers => { s.ra with blowerDuty := u }
    | .pumps => { s.ra with pumpDuty := u } }

/-- A run loss: the unit is flagged with an EQUIPMENT notice, and the other unit is started if it is not flagged; otherwise the
supply is STOPPED and an ACTIVE context exits (R101, R100). -/
def unitLost (s : State) (c : Slot) (w : WashContext) (p : SupplyPair) (u : UnitId) : State :=
  let other := if u = .a then UnitId.b else UnitId.a
  let flagged := (s.setUnitFault p u true).raise .equipment 0
  if (s.unitFaults p).has other = false then startingWith flagged c w p other ⟨true, true⟩
  else exitIfActive ((flagged.writeUnits p ⟨false, false⟩).setCtx c (some (w.setSupply p .stopped))) c (startCauseOf p) none

/-- Start confirmation and the run-loss watch on a valid answer of a pair's node, for the context in a slot (R100, R101). -/
def supplyWatched (s : State) (c : Slot) (p : SupplyPair) : State :=
  match s.ctx c with
  | none => s
  | some w =>
    match w.supply p with
    | .stopped => s
    | .starting u _ _ =>
      if runs s p u then
        onceRunning (inSlot (onDuty s p (if u = .a then .b else .a)) c (w.setSupply p (.running u false))) c
      else s
    | .running u loss =>
      if runs s p u then inSlot s c (w.setSupply p (.running u false))
      else if loss then unitLost s c w p u
      else inSlot s c (w.setSupply p (.running u true))

/-- The ramp watch and the low-flow watch on an answer from node 21, for the phase that the answer finds (R103, R105;
log 14). -/
def flowWatched (s : State) (c : Slot) (found : Phase) : State :=
  match s.ctx c with
  | none => s
  | some x =>
    let lowest := x.setpoint * (100 - s.plant.flowTolerance)
    let highest := x.setpoint * (100 + s.plant.flowTolerance)
    let k := kindAt x x.stepIndex
    if found = .ramping ∧ x.state = .active ∧ x.phase = .ramping ∧ lowest ≤ 100 * flowNow s ∧ 100 * flowNow s ≤ highest then
      inTiming s c x
    else if found = .timing ∧ x.state = .active ∧ x.phase = .timing ∧ (k = some .water ∨ k = some .airwater) then
      if 100 * flowNow s < lowest then
        match x.lowFlowStart with
        | none => inSlot s c { x with lowFlowStart := some s.now }
        | some t => if s.plant.rampWindow ≤ (s.mc.seconds - t).toNat then exitFor s c x .flowLow none else s
      else inSlot s c { x with lowFlowStart := none }
    else s

/-! ### Vocabulary of orphans -/

/-- The context `w` in slot `c` becomes ORPHAN by the loss of its filter's node or by the LOCAL switch, its filter having
left WASH already: its holdings are ORPHAN, its supplies at stop, its timers stopped, its record written by R137 and
WASH-EXIT raised; its slot leaves the shed list (R109, R137, R63). -/
def orphanState (s : State) (c : Slot) (w : WashContext) (cause : FaultCause) (outcome : WashOutcome) : State :=
  let exiting := decide (w.state = .exiting)
  let t := { s with
    ss := { contexts := s.ss.contexts.set c.val (some { w with
      state := .orphan
      secondCause := if exiting then some cause else none
      airSupply := if s.holds c .air then .stopped else w.airSupply
      washSupply := if s.holds c .wash then .stopped else w.washSupply
      setpoint := if s.holds c .wash then 0 else w.setpoint
      exitStart := none
      windowStart := none
      lowFlowStart := none }) }
    gbm := { s.gbm with
      airNode :=
        if s.holds c .air then { s.gbm.airNode with image := ⟨false, false⟩, owed := true } else s.gbm.airNode
      washNode :=
        if s.holds c .wash then { s.gbm.washNode with image := ⟨false, false, 0⟩, owed := true } else s.gbm.washNode }
    ra := { s.ra with headers :=
      ⟨orphaned c s.ra.headers.air, orphaned c s.ra.headers.wash, orphaned c s.ra.headers.ftw⟩ }
    wr := oneRecord s.wr (recordFor w s.now outcome (if exiting then w.cause else some cause)
      (if exiting then some cause else none)
      (if exiting then w.stepItems.map (snapshotNow s c w) else some (snapshotNow s c w (stepNow s w)))) }
  let u := t.raise .washExit (w.filter.val + 1)
  { u with au := { u.au with shed := u.au.shed.filter fun x => x != c } }

/-- A context is freed: it holds and awaits nothing, its commitments leave the totals, and its filter, if in UNKNOWN on a node
that is not LOST, is due for classification (R111, R12, R73). -/
def freedState (s : State) (c : Slot) (w : WashContext) : State :=
  let out := fun (e : HeaderEntry) =>
    { holdings := e.holdings.filter fun x => x.slot != c, waiting := e.waiting.filter fun x => x != c : HeaderEntry }
  { s with
    ss := { contexts := s.ss.contexts.set c.val none }
    ra := { s.ra with
      headers := ⟨out s.ra.headers.air, out s.ra.headers.wash, out s.ra.headers.ftw⟩
      tankTotal := s.ra.tankTotal - w.tankRemaining
      basinTotal := s.ra.basinTotal - w.basinRemaining }
    ft :=
      if (s.filter w.filter).state = .unknown ∧ (s.link (.filter w.filter)).lost = false then
        { records := s.ft.records.set w.filter.val { s.filter w.filter with classifyDue := true } }
      else s.ft }

/-- An ORPHAN context that holds no header is freed (R111). -/
def freedWhenBare (s : State) (c : Slot) : State :=
  match s.ctx c with
  | some w => if w.state = .orphan ∧ ∀ h ∈ [Header.air, .wash, .ftw], s.holds c h = false then freedState s c w else s
  | none => s

/-- The wash of a filter that has left WASH is orphaned, and freed at once when it holds no header (R109, R111). -/
def orphanedWash (s : State) (f : FilterId) (cause : FaultCause) (outcome : WashOutcome) : State :=
  match s.slotNaming f with
  | none => s
  | some c =>
    match s.ctx c with
    | none => s
    | some w => freedWhenBare (orphanState s c w cause outcome) c

/-- The supply of a header reports stopped: its node is not LOST, and its latest valid answer shows both units inactive; the FTW
channel has no supply (R110). -/
def quietSupply (s : State) : Header → Bool
  | .air => !(s.link .airNode).lost && s.gbm.airNode.input.isSome && !runs s .blowers .a && !runs s .blowers .b
  | .wash => !(s.link .washWater).lost && s.gbm.washNode.input.isSome && !runs s .pumps .a && !runs s .pumps .b
  | .ftw => true

/-- The inlet valve of a header at each filter (R97). -/
def inletOf : Header → Valve
  | .air => .air
  | .wash => .wwi
  | .ftw => .ftw

/-- An ORPHAN holding is released when its inlet is seen CLOSED by a view taken since any loss (log 15) and its supply reports
stopped; the header is granted onward (R110). -/
def orphanReleased (s : State) (c : Slot) (h : Header) : State :=
  match s.ctx c with
  | some w =>
    if (∃ x ∈ (s.header h).holdings, x.slot = c ∧ x.orphan = true) ∧
        (s.filter w.filter).view.get (inletOf h) = .closed ∧ (s.filter w.filter).viewStale = false ∧
        quietSupply s h = true then
      (withoutHolding s c h).grantFreed h
    else s
  | none => s

/-- The RA tests the holdings of an ORPHAN context, and frees it when the last has gone (R110, R111). -/
def orphanTested (s : State) (c : Slot) : State :=
  match s.ctx c with
  | some w =>
    if w.state = .orphan then freedWhenBare (([.air, .wash, .ftw] : List Header).foldl (fun t h => orphanReleased t c h) s) c
    else s
  | none => s

/-! ### Vocabulary of filters -/

/-- The number of filters in SERVICE (R49). -/
def inServiceCount (s : State) : Nat := ((List.finRange 20).filter fun f => (s.filter f).state = .service).length

/-- The number of filters in SERVICE whose movement to ISOLATED is in travel (R52). -/
def leavingCount (s : State) : Nat :=
  ((List.finRange 20).filter fun f => (s.filter f).state = .service ∧ (s.filter f).pending.any fun m => !m.toService).length

/-- A movement of the FT starts: the image is written and the pending pattern names the target (R5, R8). -/
def moved (t : State) (f : FilterId) (toService : Bool) : State :=
  { t with
    ft := { records := t.ft.records.set f.val { t.filter f with
      pending := some ⟨toService, t.now, false⟩
      classifyDue := false } }
    gbm := { t.gbm with filterNodes := t.gbm.filterNodes.set f.val { t.fnode f with
      image := (if toService then Pattern.service else Pattern.isolated).image
      owed := true } } }

end Sys2Proof.Claim

/-! ### The gallery bus -/

namespace Sys2Proof.Claim

/-- The code of a poll (R146, R158): the first of the four rules that applies. -/
def codeRule (s : State) : NodeId → PollCode
  | .filter f =>
    let r := s.filter f
    if s.mc.mode = .survey then .readIo
    else if (s.fnode f).owed = true ∧
        (r.state ∈ [.service, .held, .wash, .fault] ∨ (r.state = .unknown ∧ r.pending ≠ none)) then .writeIo
    else if r.totalClear = true ∧ r.state ∈ [.service, .held, .wash, .fault] then .clearTotal
    else if s.gbm.cursor = some f ∧ r.state = .service ∧ r.totalClear = false then .readTotal
    else .readIo
  | .washWater => if s.gbm.washNode.owed = true ∧ s.mc.mode ≠ .survey then .writeIo else .readIo
  | .airNode => if s.gbm.airNode.owed = true ∧ s.mc.mode ≠ .survey then .writeIo else .readIo
  | .waste => .readIo

/-- The first node of a scan (R143). -/
def scanStart (s : State) : NodeId := if s.gbm.settings.filterCount = 0 then .washWater else .filter 0

/-- The node after a node in the order 1 to F, 21, 22, 23 (R143); node 23 has none. -/
def nodeAfter (s : State) : NodeId → NodeId → Prop
  | .filter f, .filter g => g.val = f.val + 1 ∧ g.val < s.gbm.settings.filterCount
  | .filter f, .washWater => ¬ (f.val + 1 < 20 ∧ f.val + 1 < s.gbm.settings.filterCount)
  | .washWater, .airNode => True
  | .airNode, .waste => True
  | _, _ => False

/-- A valid answer to the poll of a node with a code (R145, R169). -/
def validAnswer (n : NodeId) (code : PollCode) (a : Answer) : Prop :=
  a.crc = crc16 (a.addr :: a.code :: a.status :: a.payload) ∧
  a.addr.toNat = (match n with | .filter f => f.val + 1 | .washWater => 21 | .airNode => 22 | .waste => 23) ∧
  a.code.toNat = (match code with | .readIo => 1 | .writeIo => 2 | .readTotal => 3 | .clearTotal => 4) ∧
  a.payload.length = (match n, code with
    | .filter _, .readIo | .filter _, .writeIo => 8
    | .filter _, _ => 4
    | .washWater, _ => 5
    | .airNode, _ => 3
    | .waste, _ => 3) ∧
  a.status.getLsbD 0 = true

/-- A link after a miss (R149, R150). -/
def missed (l : NodeLink) (limit : Nat) : NodeLink :=
  { l with
    totalMisses := min (l.totalMisses + 1) 65535
    misses := if l.misses < limit then l.misses + 1 else l.misses
    lost := l.lost || decide (l.misses + 1 = limit) }

/-- A link after a valid answer; the status is node healthy and the LOCAL switch, bits 0 and 1 (R149, R151, R153, R168,
R169). -/
def heardFrom (s : State) (l : NodeLink) (a : Answer) : NodeLink :=
  { l with
    lost := false, misses := 0, status := some (a.status &&& 3), lastAnswer := some s.now }

/-- Node entries without an image sent (R148). -/
def unsent (g : BusMaster) : NodeId → BusMaster
  | .filter f => { g with filterNodes := g.filterNodes.set f.val { g.filterNodes[f.val] with sent := none } }
  | .washWater => { g with washNode := { g.washNode with sent := none } }
  | .airNode => { g with airNode := { g.airNode with sent := none } }
  | .waste => g

/-- The filter number that a node's notices carry (R150). -/
def nodeNumber : NodeId → Nat
  | .filter f => f.val + 1
  | _ => 0

/-! ### Vocabulary of loss -/

/-- The GBM's own items after a miss (R148, R149). -/
def missNoted (s : State) (n : NodeId) : State :=
  { s with gbm := { unsent s.gbm n with
    links := s.gbm.links.set n.index.val (missed (s.link n) s.gbm.settings.missLimit)
    scanMissed := true } }

/-- A filter goes to UNKNOWN on the loss of its node, its movement, held condition and fault dropped (R9). The view is then
older than the loss (log 15), and no classification is due (log 33). -/
def goneUnknown (s : State) (f : FilterId) : State :=
  (s.modFilter f fun r => { r with
    pending := none, held := none, fault := none, classifyDue := false, viewStale := true }).changeState f .unknown

/-- The FT on the LOST event of a filter node, by the filter's state; a wash is orphaned (R9, R109). -/
def filterGone (s : State) (f : FilterId) : State :=
  let stale := s.modFilter f fun r => { r with classifyDue := false, viewStale := true }
  match (s.filter f).state with
  | .service | .held | .localCtl => goneUnknown s f
  | .unknown => s.modFilter f fun r => { r with pending := none, classifyDue := false, viewStale := true }
  | .fault => if (s.filter f).pending = none then stale else goneUnknown s f
  | .wash => orphanedWash (goneUnknown s f) f .nodeLost .orphaned
  | .unused => stale

/-- The RA on the LOST event of node 21 or 22: the stop image is written, the supplies of the holders are STOPPED, and the
ACTIVE holders and waiters of its header exit with SUPPLY-LOST (R108; log 37 for their order). -/
def supplyGone (s : State) (p : SupplyPair) : State :=
  let e := s.header (match p with | .blowers => .air | .pumps => .wash)
  let holders := e.holdings.map fun x => x.slot
  let image := { s with gbm := match p with
    | .blowers => { s.gbm with airNode := { s.gbm.airNode with image := ⟨false, false⟩, owed := true } }
    | .pumps => { s.gbm with washNode := { s.gbm.washNode with image := ⟨false, false, 0⟩, owed := true } } }
  let stopped := holders.foldl (fun t c => match t.ctx c with | some w => supplyAtStop t c w p | none => t) image
  (holders ++ e.waiting).foldl (fun t c => exitIfActive t c .supplyLost none) stopped

/-- What a LOST event does: the block concerned acts, and NODE is raised (R150). -/
def lossTaken (s : State) (n : NodeId) : State :=
  let t := match n with
    | .filter f => filterGone s f
    | .washWater => supplyGone s .pumps
    | .airNode => supplyGone s .blowers
    | .waste => s
  t.raise .node (nodeNumber n)

/-- What a missing answer does: the miss is noted, and the miss that has just brought the count to the limit is the LOST
event (R149, R150). -/
def afterMiss (s : State) (n : NodeId) : State :=
  let l := missed (s.link n) s.gbm.settings.missLimit
  if l.lost = true ∧ (s.link n).lost = false then lossTaken (missNoted s n) n else missNoted s n

/-! ### Vocabulary of answers -/

/-- The link after a valid answer, with the NODE notice of a node that was LOST (R151, R153). -/
def answerHeard (s : State) (n : NodeId) (a : Answer) : State :=
  let t := { s with gbm := { s.gbm with links := s.gbm.links.set n.index.val (heardFrom s (s.link n) a) } }
  if (s.link n).lost then t.raise .node (nodeNumber n) else t

/-- The input that an answer of a filter node carries (R169). -/
def inputOf (a : Answer) : FilterInput :=
  ⟨BitVec.ofNat 16 (u16 a.payload 0), BitVec.ofNat 16 (u16 a.payload 2), BitVec.ofNat 16 (u16 a.payload 4),
    BitVec.ofNat 16 (u16 a.payload 6)⟩

/-- Step 1 of R153 on an input answer: the input is stored with its change set, CHANGE is raised when a watched input is in
the set (R152), and the answer to a WRITE_IO settles the write (R148). -/
def inputStored (s : State) (f : FilterId) (code : PollCode) (a : Answer) : State :=
  let t := answerHeard s (.filter f) a
  let old := s.fnode f
  let change := match old.input with
    | some i => i.word ^^^ (inputOf a).word
    | none => 0
  let u := { t with gbm := { t.gbm with filterNodes := s.gbm.filterNodes.set f.val { old with
    input := some (inputOf a)
    changeSet := change
    owed := if code = .writeIo then old.owed && !decide (old.sent = some old.image) else old.owed
    sent := if code = .writeIo then none else old.sent } } }
  if change &&& (s.cs.working.filters[f.val]).watchMask = 0 then u else u.raise .change (f.val + 1)

/-- The FT on an answer that shows the LOCAL switch active; in SURVEY it does not act (R17, R12, R109). -/
def localTaken (s : State) (f : FilterId) : State :=
  let gone := (s.modFilter f fun r => { r with
    pending := none, held := none, fault := none, classifyDue := false }).changeState f .localCtl
  if s.mc.mode = .survey then s
  else
    match (s.filter f).state with
    | .service | .held | .unknown => gone
    | .fault => if s.orphanNames f then s else gone
    | .wash => orphanedWash gone f .localTaken .localTaken
    | .localCtl | .unused => s

/-- The FT sets the valve view and the analog values from an input answer (R2). -/
def viewTaken (s : State) (f : FilterId) (i : FilterInput) : State :=
  s.modFilter f fun r => { r with
    view := viewOfWord i.word, headloss := i.headloss, level := i.level, turbidity := i.turbidity
    viewStale := false
    surveyAnswered := r.surveyAnswered || decide (s.mc.mode = .survey) }

/-- Survey-of-one where it is due on an input answer: a filter in LOCAL whose switch is inactive (R18), and a filter in UNKNOWN
without a movement on regain (R10) or after its orphan's freeing (R12); not in SURVEY, and not while an orphan names it. -/
def classifiedOn (s : State) (f : FilterId) (word : BitVec 16) (localActive regained : Bool) : State :=
  let r := s.filter f
  if s.mc.mode = .survey ∨ s.orphanNames f = true then s
  else if r.state = .localCtl ∧ localActive = false then s.surveyOfOne f word false
  else if r.state = .unknown ∧ r.pending = none ∧ (regained = true ∨ r.classifyDue = true) then
    s.surveyOfOne f word localActive
  else s

/-- Steps 4 and 5 of R153 on an input answer: the RA releases the headers whose inlets are closed and tests an orphan's
holdings, and then the SS takes the answer. -/
def washTaken (s : State) (f : FilterId) (tripped : Bool) : State :=
  match s.slotNaming f with
  | none => s
  | some c =>
    (orphanTested (([.air, .wash, .ftw] : List Header).foldl (fun t h => t.releaseHolding c h) s) c).sequencerAnswer c tripped

/-- A valid input answer of a filter node, taken by GBM, FT, TE, RA and SS in this order (R153). -/
def inputTaken (s : State) (f : FilterId) (code : PollCode) (a : Answer) : State :=
  let i := inputOf a
  let switch := a.status.getLsbD 1
  let t := inputStored s f code a
  let t := if switch then localTaken t f else t
  let t := classifiedOn ((viewTaken t f i).movementAnswer f) f i.word switch (s.link (.filter f)).lost
  let out := (t.watchDrift f).watchTrip f i.word
  washTaken (out.1.evalTriggers f true) f out.2

/-- A valid totalizer answer of a filter node, taken by GBM, FT and TE: the LOCAL switch, a classification due after a regain
(R10), the volume and the end of a total clear (R21, R153). -/
def totalTaken (s : State) (f : FilterId) (code : PollCode) (a : Answer) : State :=
  let v := BitVec.ofNat 32 (u32 a.payload 0)
  let t := answerHeard s (.filter f) a
  let t := { t with gbm := { t.gbm with filterNodes := s.gbm.filterNodes.set f.val { s.fnode f with totalizer := some v } } }
  let t := if a.status.getLsbD 1 then localTaken t f else t
  let due := decide ((s.link (.filter f)).lost = true ∧ (t.filter f).state = .unknown ∧ (t.filter f).pending = none ∧
    t.orphanNames f = false ∧ s.mc.mode ≠ .survey)
  State.evalTriggers (t.modFilter f fun r => { r with
    classifyDue := if due then true else r.classifyDue
    filteredVolume := if code = .clearTotal then 0 else v.toNat
    totalClear := if code = .clearTotal then false else r.totalClear }) f false

/-- The readings that an answer of node 21 carries (R169). -/
def pumpReadings (a : Answer) : PumpInput :=
  ⟨(a.payload.getD 0 0).getLsbD 0, (a.payload.getD 0 0).getLsbD 1, u16 a.payload 1, u16 a.payload 3⟩

/-- The readings that an answer of node 22 carries (R169). -/
def blowerReadings (a : Answer) : BlowerInput :=
  ⟨(a.payload.getD 0 0).getLsbD 0, (a.payload.getD 0 0).getLsbD 1, u16 a.payload 1⟩

/-- A valid answer of node 21 is stored (R154, R148, R175), and then taken by the RA for each context: start confirmation and
run-loss watch, ramp or low-flow watch, and at the end the conditions of the orphans (R154). -/
def pumpsTaken (s : State) (code : PollCode) (a : Answer) : State :=
  let t := answerHeard s .washWater a
  let old := s.gbm.washNode
  let u := { t with
    gbm := { t.gbm with washNode := { old with
      input := some (pumpReadings a)
      owed := if code = .writeIo then old.owed && !decide (old.sent = some old.image) else old.owed
      sent := if code = .writeIo then none else old.sent } }
    nu := { t.nu with tankWatch := ⟨old.input.map fun x => x.tank, true⟩ } }
  let v := ([0, 1, 2, 3] : List Slot).foldl (fun t c => match t.ctx c with
    | some w => flowWatched (supplyWatched t c .pumps) c w.phase
    | none => t) u
  ([0, 1, 2, 3] : List Slot).foldl orphanTested v

/-- A valid answer of node 22 is stored and taken by the RA (R154). -/
def blowersTaken (s : State) (code : PollCode) (a : Answer) : State :=
  let t := answerHeard s .airNode a
  let old := s.gbm.airNode
  let u := { t with gbm := { t.gbm with airNode := { old with
    input := some (blowerReadings a)
    owed := if code = .writeIo then old.owed && !decide (old.sent = some old.image) else old.owed
    sent := if code = .writeIo then none else old.sent } } }
  ([0, 1, 2, 3] : List Slot).foldl orphanTested
    (([0, 1, 2, 3] : List Slot).foldl (fun t c => supplyWatched t c .blowers) u)

/-! ### Vocabulary of scan completions -/

/-- The totalizer cursor's next place (R147). -/
def cursorAfter (s : State) : Option FilterId :=
  s.gbm.cursor.map fun f =>
    if h : f.val + 1 < 20 then if f.val + 1 < s.gbm.settings.filterCount then ⟨f.val + 1, h⟩ else 0 else 0

/-- The GBM's own steps at a scan completion (R143, R144, R147). -/
def scanCounted (s : State) : State :=
  { s with gbm := { s.gbm with
    scanCount := s.gbm.scanCount + 1
    scansWithMiss := if s.gbm.scanMissed then min (s.gbm.scansWithMiss + 1) 65535 else s.gbm.scansWithMiss
    overruns := if s.gbm.periodExpired then min (s.gbm.overruns + 1) 65535 else s.gbm.overruns
    cursor := cursorAfter s
    phase := .idle } }

/-- A scan starts, and with it the scan period (R143). -/
def scanBegun (s : State) : State :=
  { s with
    gbm := { s.gbm with phase := .due (scanStart s), periodExpired := false, scanMissed := false }
    nu := { s.nu with
      tankWatch := { s.nu.tankWatch with answered := false }
      basinWatch := { s.nu.basinWatch with answered := false } } }

/-- A filter at the survey's end is classified by the latest input answer that the survey took from its node; without one it
stays UNKNOWN (R185, R23). -/
def surveyedFilter (s : State) (f : FilterId) : State :=
  if f.val < s.gbm.settings.filterCount ∧ (s.filter f).surveyAnswered = true then
    match (s.fnode f).input, (s.link (.filter f)).status with
    | some i, some status => s.surveyOfOne f i.word (status.getLsbD 1)
    | _, _ => s
  else s

/-- The survey's end: filters 1 to F are classified, the images of nodes whose units run are asked for (R93), the floor is
evaluated (R49), and the mode becomes HOLD (R185). -/
def surveyEnded (s : State) : State :=
  let t := (List.finRange 20).foldl surveyedFilter s
  let u := { t with gbm := { t.gbm with
    washNode := { t.gbm.washNode with owed := t.gbm.washNode.owed || runs t .pumps .a || runs t .pumps .b }
    airNode := { t.gbm.airNode with owed := t.gbm.airNode.owed || runs t .blowers .a || runs t .blowers .b } } }
  let breach := decide (inServiceCount u < u.au.required)
  let v := if breach = u.au.breach then u else State.raise { u with au := { u.au with breach := breach } } .floor 0
  { v with mc := { v.mc with mode := .hold } }

/-- The MC counts a scan completion toward the survey (R185). -/
def surveyCounted (s : State) : State :=
  if s.mc.mode = .survey then
    let t := { s with mc := { s.mc with surveyProgress := s.mc.surveyProgress + 1 } }
    if 2 ≤ s.mc.surveyProgress then surveyEnded t else t
  else s

/-- The transaction of node 23 has ended, and with it the scan: GBM, AU, NU and MC act in this order, and the next scan starts
at once when the scan period has run out already (R143, R144; log 37). -/
def scanEnded (s : State) : State :=
  let t := surveyCounted ((scanCounted s).admissionUnit).watchVolumes
  if s.gbm.periodExpired then scanBegun t else t

/-- A valid answer of node 23 is stored (R154, R175). -/
def wasteTaken (s : State) (a : Answer) : State :=
  let t := answerHeard s .waste a
  { t with
    gbm := { t.gbm with wasteInput := some ⟨u16 a.payload 0, (a.payload.getD 2 0).getLsbD 0⟩ }
    nu := { t.nu with basinWatch := ⟨s.gbm.wasteInput.map fun x => x.basin, true⟩ } }

/-- The tank available volume of the latest valid answer; 0 before the first (R55). -/
def tankNow (s : State) : Int := ((s.gbm.washNode.input.map fun i => i.tank).getD 0 : Nat)

/-- The basin free volume of the latest valid answer; 0 before the first. -/
def basinNow (s : State) : Int := ((s.gbm.wasteInput.map fun i => i.basin).getD 0 : Nat)

/-- A volume has crossed a threshold between two valid answers (R175). -/
def Crossed (threshold : Nat) (w : VolumeWatch) (value : Nat) : Prop :=
  w.answered = true ∧ ∃ p, w.previous = some p ∧ ((p < threshold ∧ threshold ≤ value) ∨ (value < threshold ∧ threshold ≤ p))

/-- A volume differs from the one before (R175). -/
def Changed (w : VolumeWatch) (value : Nat) : Prop := w.answered = true ∧ ∃ p, w.previous = some p ∧ p ≠ value

/-- A context ripens: it is ACTIVE with a RIPEN step in TIMING (R62). -/
def Ripens (w : WashContext) : Prop := w.state = .active ∧ kindAt w w.stepIndex = some .ripen ∧ w.phase = .timing

/-- A context and an exit kind that shedding may pick: an ACTIVE context outside the shed list that ripens, with LATE-EXIT, or
that does not and has mark NONE, with RETURN-EXIT (R62). -/
def Sheddable (s : State) (x : Slot × ExitKind) : Prop :=
  x.1 ∉ s.au.shed ∧ ∃ w, s.ctx x.1 = some w ∧ w.state = .active ∧
    ((x.2 = .lateExit ∧ Ripens w) ∨ (x.2 = .returnExit ∧ ¬ Ripens w ∧ w.progress = .none))

/-- The order in which shedding picks: ripening contexts first, the longest in TIMING first, then the lower slot; then the
others, the latest admission first, then the higher slot (R62). -/
def ShedsBefore (s : State) (x y : Slot × ExitKind) : Prop :=
  ∀ v w, s.ctx x.1 = some v → s.ctx y.1 = some w →
    (x.2 = .lateExit ∧ y.2 = .returnExit) ∨
    (x.2 = .lateExit ∧ y.2 = .lateExit ∧
      ((s.mc.seconds - w.phaseStart).toNat < (s.mc.seconds - v.phaseStart).toNat ∨
        (s.mc.seconds - w.phaseStart = s.mc.seconds - v.phaseStart ∧ x.1 < y.1))) ∨
    (x.2 = .returnExit ∧ y.2 = .returnExit ∧
      (w.admissionTime.toNat < v.admissionTime.toNat ∨ (w.admissionTime = v.admissionTime ∧ y.1 < x.1)))

/-- One context is shed: its slot joins the shed list, and an exit without a cause is decided (R63, R128). -/
def shedExit (s : State) (x : Slot × ExitKind) : State :=
  let t := if x.1 ∈ s.au.shed then s else { s with au := { s.au with shed := s.au.shed ++ [x.1] } }
  match s.ctx x.1 with
  | some w => exitState t x.1 w x.2 none none
  | none => t

end Sys2Proof.Claim

/-- The expiry of the scan period starts the next scan, or marks the scan in progress as overrun; a poll that is due goes
out with the code of R146, the image it carries kept as the image sent (R143, R144, R146, R148, R158). -/
def Obligations.ScansAndPolls : Prop :=
  ∀ s : State, Running s →
    (s.gbm.phase = .idle → exec .scanPeriodExpiry s = .next { s with
      gbm := { s.gbm with phase := .due (scanStart s), periodExpired := false, scanMissed := false }
      nu := { s.nu with
        tankWatch := { s.nu.tankWatch with answered := false }
        basinWatch := { s.nu.basinWatch with answered := false } } }) ∧
    (s.gbm.phase ≠ .idle → exec .scanPeriodExpiry s = .next { s with gbm := { s.gbm with periodExpired := true } }) ∧
    (∀ n, s.gbm.phase = .due n →
      let code := codeRule s n
      exec .poll s = .next { s with gbm := { s.gbm with
        links := s.gbm.links.set n.index.val { s.link n with lastCode := some code }
        filterNodes := match n with
          | .filter f =>
            if code = .writeIo then s.gbm.filterNodes.set f.val { s.fnode f with sent := some (s.fnode f).image }
            else s.gbm.filterNodes
          | _ => s.gbm.filterNodes
        washNode :=
          if n = .washWater ∧ code = .writeIo then { s.gbm.washNode with sent := some s.gbm.washNode.image }
          else s.gbm.washNode
        airNode :=
          if n = .airNode ∧ code = .writeIo then { s.gbm.airNode with sent := some s.gbm.airNode.image }
          else s.gbm.airNode
        phase := .awaiting n code } })

/-- A missing answer counts on the node and marks the scan, and the next node's poll comes due; node 23's completes the scan
(R143, R149). The miss that brings the count to the limit is the LOST event, with NODE raised (R150): a filter is taken by R9,
a wash orphaned with its record, WASH-EXIT and ORPHAN holdings, or freed with its commitments when it holds no header (R109,
R111, R137); for nodes 21 and 22 the supply is stopped and the ACTIVE holders and waiters exit with SUPPLY-LOST (R108). The
order of these exits is the model's reading (log 37), and so are the marks of the filter record for an old view and a
classification that is due (logs 15 and 33), and that a wash orphaned while ACTIVE has no cause in its context, NODE-LOST
standing in its record only (log 18); the order of a header's holdings is its choice (log 45). -/
def Obligations.MissingAnswersAreCounted : Prop :=
  ∀ (s : State) (n : NodeId) (code : PollCode), Running s → s.gbm.phase = .awaiting n code →
    let t := afterMiss s n
    (∀ m, nodeAfter s n m → exec .missingAnswer s = .next { t with gbm := { t.gbm with phase := .due m } }) ∧
    (n = .waste → exec .missingAnswer s = .next (scanEnded t)) ∧
    (∀ m, t.link m = if m = n then missed (s.link n) s.gbm.settings.missLimit else s.link m) ∧
    ∀ f c w, n = .filter f → (t.link n).lost = true → (s.link n).lost = false →
      (s.filter f).state = .wash → s.slotNaming f = some c → s.ctx c = some w → w.state ≠ .orphan →
        (t.filter f).state = .unknown ∧
        (w.state = .active → t.wr = oneRecord s.wr
          (recordFor w s.now .orphaned (some .nodeLost) none (some (snapshotNow s c w (stepNow s w))))) ∧
        (w.state = .exiting → t.wr = oneRecord s.wr
          (recordFor w s.now .orphaned w.cause (some .nodeLost) (w.stepItems.map (snapshotNow s c w)))) ∧
        ((∀ h, s.holds c h = false) → t.ctx c = none ∧
          t.ra.tankTotal = s.ra.tankTotal - w.tankRemaining ∧ t.ra.basinTotal = s.ra.basinTotal - w.basinRemaining) ∧
        ((∃ h, s.holds c h = true) → (∃ v, t.ctx c = some v ∧ v.state = .orphan) ∧
          (∀ h, t.holdsOrphan c h = s.holds c h) ∧ t.ra.tankTotal = s.ra.tankTotal ∧ t.ra.basinTotal = s.ra.basinTotal)

/-- An answer is valid by the tests of R145 with the lengths of R169, and one that fails a test is counted as missing (R145).
These clauses are the model's: each answer row acts by the content of the answer, and one that no poll awaits does nothing
(log 36); a MISSING_ANSWER that no poll awaits does nothing (log 1). -/
def Obligations.InvalidAnswersCountAsMissing : Prop :=
  (∀ n code a, answerValid n code a = true ↔ validAnswer n code a) ∧
  ∀ (s : State) (a : Answer) (i : Instr), i ∈ [.filterInputAnswer a, .filterTotalizerAnswer a, .supplyNodeAnswer a] →
    (∀ n code, s.gbm.phase = .awaiting n code → ¬ validAnswer n code a → exec i s = exec .missingAnswer s) ∧
    ((∀ n code, s.gbm.phase ≠ .awaiting n code) → exec i s = .next s ∧ exec .missingAnswer s = .next s)

/-- A valid answer of a filter node is stored and sets the link, the valve view, the analog values and the previous word, or
the filtered volume; the next node's poll comes due (R2, R14, R21, R152, R153). The whole of it is the acts of GBM, FT, TE, RA
and SS in the order of R153: change set and CHANGE (R152), LOCAL takeover (R17), view, movement, the classification due on
return, regain or freeing (R18, R10, R12), drift, trips, triggers, header releases, orphan tests and the sequencer. The model's
readings are the order of the FT's acts on one answer, so that the LOCAL record's seen valves are those of the answer before
(log 13), the view taken since a loss (log 15), a classification with the LOCAL switch active (log 16), the mark that one is
due (log 33), and that a wash orphaned by LOCAL while ACTIVE has no cause in its context (log 18); the order of a header's
holdings is its choice (log 45). -/
def Obligations.FilterAnswersAreStored : Prop :=
  ∀ (s : State) (f : FilterId) (code : PollCode) (a : Answer), Running s → s.gbm.phase = .awaiting (.filter f) code →
    validAnswer (.filter f) code a →
    (code = .readIo ∨ code = .writeIo →
      let word := BitVec.ofNat 16 (u16 a.payload 0)
      ∃ t, exec (.filterInputAnswer a) s = .next t ∧
        (∀ m, t.link m = if m = .filter f then heardFrom s (s.link m) a else s.link m) ∧
        (∀ m, nodeAfter s (.filter f) m → t.gbm.phase = .due m) ∧
        (t.fnode f).input = some ⟨word, BitVec.ofNat 16 (u16 a.payload 2), BitVec.ofNat 16 (u16 a.payload 4),
          BitVec.ofNat 16 (u16 a.payload 6)⟩ ∧
        (t.fnode f).changeSet = (match (s.fnode f).input with | some i => i.word ^^^ word | none => 0) ∧
        (t.filter f).headloss = BitVec.ofNat 16 (u16 a.payload 2) ∧
        (t.filter f).level = BitVec.ofNat 16 (u16 a.payload 4) ∧
        (t.filter f).turbidity = BitVec.ofNat 16 (u16 a.payload 6) ∧
        (t.filter f).previousWord = word ∧
        ∀ v : Valve, (t.filter f).view.get v =
          if word.getLsbD (2 * v.index) = true ∧ word.getLsbD (2 * v.index + 1) = false then .opened
          else if word.getLsbD (2 * v.index) = false ∧ word.getLsbD (2 * v.index + 1) = true then .closed
          else .travelling) ∧
    (code = .readIo ∨ code = .writeIo → ∀ m, nodeAfter s (.filter f) m → exec (.filterInputAnswer a) s =
      .next (let t := inputTaken s f code a; { t with gbm := { t.gbm with phase := .due m } })) ∧
    (code = .readTotal ∨ code = .clearTotal → ∀ m, nodeAfter s (.filter f) m → exec (.filterTotalizerAnswer a) s =
      .next (let t := totalTaken s f code a; { t with gbm := { t.gbm with phase := .due m } })) ∧
    (code = .readTotal ∨ code = .clearTotal →
      ∃ t, exec (.filterTotalizerAnswer a) s = .next t ∧
        (∀ m, t.link m = if m = .filter f then heardFrom s (s.link m) a else s.link m) ∧
        (∀ m, nodeAfter s (.filter f) m → t.gbm.phase = .due m) ∧
        (t.fnode f).totalizer = some (BitVec.ofNat 32 (u32 a.payload 0)) ∧
        (t.fnode f).input = (s.fnode f).input ∧ (t.filter f).view = (s.filter f).view ∧
        (t.filter f).filteredVolume = (if code = .clearTotal then 0 else (BitVec.ofNat 32 (u32 a.payload 0)).toNat) ∧
        (t.filter f).totalClear = (if code = .clearTotal then false else (s.filter f).totalClear))

/-- A valid answer of node 21 or 22 is stored as the node's readings, settles a write while no wash writes the node's image,
and gives node 21's volume to the threshold watch; the next node's poll comes due (R107, R148, R154, R175). The RA then acts for
each context: start confirmation (R100), run loss with its changeover (R101), the flow in tolerance that ends RAMPING (R103),
low flow in TIMING (R105), and for each ORPHAN the release of its holdings and its freeing (R110, R111). That the flow is judged
by the phase the answer finds is the model's reading (log 14), and so are the view taken since a loss (log 15) and the order of
the contexts, by slot (log 37); its choices are the order of a header's holdings (log 45) and bit 1 of the status, kept as
received (log 46). -/
def Obligations.SupplyAnswersAreStored : Prop :=
  ∀ (s : State) (code : PollCode) (a : Answer), Running s →
    (s.gbm.phase = .awaiting .washWater code → validAnswer .washWater code a →
      let i : PumpInput := ⟨(a.payload.getD 0 0).getLsbD 0, (a.payload.getD 0 0).getLsbD 1, u16 a.payload 1, u16 a.payload 3⟩
      ∃ t, exec (.supplyNodeAnswer a) s = .next t ∧
        (∀ m, t.link m = if m = .washWater then heardFrom s (s.link m) a else s.link m) ∧
        t = (let u := pumpsTaken s code a; { u with gbm := { u.gbm with phase := .due .airNode } }) ∧
        t.gbm.phase = .due .airNode ∧ t.gbm.washNode.input = some i ∧
        t.nu.tankWatch = ⟨s.gbm.washNode.input.map fun x => x.tank, true⟩ ∧
        ((∀ c, s.ctx c = none) → t.gbm.washNode =
          { image := s.gbm.washNode.image
            owed := s.gbm.washNode.owed && !(decide (code = .writeIo) && decide (s.gbm.washNode.sent = some s.gbm.washNode.image))
            sent := if code = .writeIo then none else s.gbm.washNode.sent
            input := some i })) ∧
    (s.gbm.phase = .awaiting .airNode code → validAnswer .airNode code a →
      let i : BlowerInput := ⟨(a.payload.getD 0 0).getLsbD 0, (a.payload.getD 0 0).getLsbD 1, u16 a.payload 1⟩
      ∃ t, exec (.supplyNodeAnswer a) s = .next t ∧
        (∀ m, t.link m = if m = .airNode then heardFrom s (s.link m) a else s.link m) ∧
        t = (let u := blowersTaken s code a; { u with gbm := { u.gbm with phase := .due .waste } }) ∧
        t.gbm.phase = .due .waste ∧ t.gbm.airNode.input = some i ∧
        ((∀ c, s.ctx c = none) → t.gbm.airNode =
          { image := s.gbm.airNode.image
            owed := s.gbm.airNode.owed && !(decide (code = .writeIo) && decide (s.gbm.airNode.sent = some s.gbm.airNode.image))
            sent := if code = .writeIo then none else s.gbm.airNode.sent
            input := some i }))

/-- A valid answer of node 23 is stored and completes the scan: the counts of R143 and R144, the cursor of R147, the AU's parts
by the mode (R50), the VOLUME crossings (R175), and the survey's progress and end, at which the filters are classified, running
supplies' images asked for, and the floor evaluated (R185, R23, R93). The AU's isolation pass goes over the queue in order
(R41), and its shedding over the candidates in the order of R62 up to the shortfall (R61, R63). What a setting without a value
gives is free (logs 10 and 30); the order of the blocks is the model's reading (log 37), and so is a classification with the
LOCAL switch active (log 16); bit 1 of node 23's status kept as received is its choice (log 46). -/
def Obligations.WasteAnswerCompletesTheScan : Prop :=
  (∀ (s : State) (a : Answer), Running s → s.gbm.phase = .awaiting .waste .readIo → validAnswer .waste .readIo a →
    ∃ t, exec (.supplyNodeAnswer a) s = .next t ∧
      t = scanEnded (wasteTaken s a) ∧
      (∀ m, t.link m = if m = .waste then heardFrom s (s.link m) a else s.link m) ∧
      t.gbm.wasteInput = some ⟨u16 a.payload 0, (a.payload.getD 2 0).getLsbD 0⟩ ∧
      t.gbm.scanCount = s.gbm.scanCount + 1 ∧
      t.gbm.scansWithMiss = (if s.gbm.scanMissed then min (s.gbm.scansWithMiss + 1) 65535 else s.gbm.scansWithMiss) ∧
      t.gbm.overruns = (if s.gbm.periodExpired then min (s.gbm.overruns + 1) 65535 else s.gbm.overruns) ∧
      t.gbm.phase = (if s.gbm.periodExpired then .due (scanStart s) else .idle) ∧
      (s.gbm.cursor = none → t.gbm.cursor = none) ∧
      (∀ f g : FilterId, s.gbm.cursor = some f → g.val = f.val + 1 → g.val < s.gbm.settings.filterCount →
        t.gbm.cursor = some g) ∧
      (∀ f : FilterId, s.gbm.cursor = some f → ¬ (f.val + 1 < 20 ∧ f.val + 1 < s.gbm.settings.filterCount) →
        t.gbm.cursor = some 0) ∧
      (s.mc.mode ≠ .auto → t.au.lastCheck = .notRun) ∧
      (s.mc.mode ≠ .survey → t.mc = s.mc) ∧
      (s.mc.mode = .survey → t.mc = { s.mc with
        surveyProgress := s.mc.surveyProgress + 1
        mode := if 2 ≤ s.mc.surveyProgress then .hold else .survey })) ∧
  ∀ s : State,
    let checked := fun (t : State) => { t with au := { t.au with lastCheck := .notRun } }
    (s.mc.mode = .survey → s.admissionUnit = checked s) ∧
    (s.mc.mode = .setup → s.admissionUnit = checked s.isolationPass) ∧
    (s.mc.mode = .hold → s.admissionUnit = checked s.isolationPass.shedding) ∧
    (s.mc.mode = .auto → s.admissionUnit = s.isolationPass.shedding.admissionCheck) ∧
    s.isolationPass = s.wq.entries.foldl State.passEntry s ∧
    (∀ e : QueueEntry,
      let considered := e.cls = .breakthrough ∧ (s.filter e.filter).state = .service ∧ (s.filter e.filter).pending = none
      let room := s.au.required + leavingCount s + 1 ≤ inServiceCount s
      let drawn := { s with free := s.free + 1 }
      (¬ considered → s.passEntry e = s) ∧
      (∀ x, considered → (s.filterConfig e.filter).settings = some x →
        (x.isolate = true ∧ room → s.passEntry e = moved s e.filter false) ∧
        (¬ (x.isolate = true ∧ room) → s.passEntry e = s)) ∧
      (considered → (s.filterConfig e.filter).settings = none →
        s.passEntry e = drawn ∨ (room ∧ s.passEntry e = moved drawn e.filter false))) ∧
    (s.au.breach = false → s.shedding = s) ∧
    (s.au.breach = true → ∃ picks : List (Slot × ExitKind),
      (∀ x, x ∈ picks ↔ Sheddable s x) ∧ picks.Pairwise (ShedsBefore s) ∧
      s.shedding = (picks.take (s.au.required - inServiceCount s - s.au.shed.length)).foldl shedExit s) ∧
    ∃ (tank basin : Bool) (n : Nat),
      (∀ x, s.plant.tankThreshold = some x → (tank = true ↔ Crossed x s.nu.tankWatch (tankNow s).toNat)) ∧
      (∀ x, s.plant.basinThreshold = some x → (basin = true ↔ Crossed x s.nu.basinWatch (basinNow s).toNat)) ∧
      (tank = true → Changed s.nu.tankWatch (tankNow s).toNat) ∧
      (basin = true → Changed s.nu.basinWatch (basinNow s).toNat) ∧
      (s.plant.tankThreshold ≠ none → s.plant.basinThreshold ≠ none → n = s.free) ∧
      s.watchVolumes = (let t := { s with free := n }
        let t := if tank then t.raise .volume 0 else t
        if basin then t.raise .volume 0 else t)

/-! ### Reads -/

/-- IDENT carries maker 4Ah, device 14h, revision 1, 20, the link rate, the mode and F in use; STATUS carries the 39 bytes
of its layout; neither changes any state (R167, R66, R168). The order of IDENT's fields is the model's (log 21), and so is the
flow in use sent as absent without a fallback flow (log 12). -/
def Obligations.IdentAndStatusReportThePart : Prop :=
  ∀ s : State, Ready s →
    exec (.ident []) s = .next (granted (taken s .ident []) .ident
      [0x4A, 0x14, 1, 20, if s.hlu.fastLink then 1 else 0, BitVec.ofNat 8 s.mc.mode.code, BitVec.ofNat 8 s.filterCount]) ∧
    ∃ b : List Byte, exec (.status []) s = .next (granted (taken s .status []) .status b) ∧ b.length = 39 ∧
    HasAt b 0 (be32 s.mc.seconds.toNat) ∧ HasAt b 4 (be8 s.mc.mode.code) ∧ HasAt b 5 (be8 s.filterCount) ∧
    HasAt b 6 (be16 s.au.reportedFlow) ∧ HasAt b 8 (be8 (if s.au.fresh then 0 else 1)) ∧
    HasAt b 9 (opt32 (s.au.arrival.map fun t => (s.mc.seconds - t).toNat)) ∧
    HasAt b 13 (opt16 (if s.au.fresh then some s.au.reportedFlow else s.plant.fallbackFlow)) ∧
    HasAt b 15 (be16 s.au.required) ∧
    HasAt b 17 (be8 ((List.finRange 20).filter fun f => (s.filter f).state = .service).length) ∧
    HasAt b 18 (be8 ((List.finRange 20).filter fun f => (s.filter f).state = .service ∧
      (s.filter f).pending.any fun m => !m.toService).length) ∧
    HasAt b 19 (be8 (if s.au.breach then 1 else 0)) ∧
    HasAt b 20 (opt32 (s.au.lastAdmission.map fun t => t.toNat)) ∧
    HasAt b 24 (be8 ((List.finRange 4).map fun c => if c ∈ s.au.shed then 2 ^ c.val else 0).sum) ∧
    HasAt b 25 (be8 s.au.lastCheck.code) ∧
    (match s.au.lastCheck with
      | .noneEligible f r => HasAt b 26 (be8 (f.val + 1)) ∧ HasAt b 27 (be8 r.code)
      | .admitted f => HasAt b 26 (be8 (f.val + 1)) ∧ HasAt b 27 [0xFF]
      | _ => HasAt b 26 [0xFF] ∧ HasAt b 27 [0xFF]) ∧
    HasAt b 28 (be16 s.wq.changeNumber.toNat) ∧ HasAt b 30 (be8 s.wq.entries.length) ∧
    (∀ c : Slot, HasAt b (31 + c.val) (be8 (ctxCode (s.ctx c)))) ∧
    HasAt b 35 (be16 ((List.finRange 12).map fun k => if (s.nu.accounts[k.val]).pending then 2 ^ k.val else 0).sum) ∧
    HasAt b 37 (be8 (if s.nu.attnDriven then 1 else 0)) ∧
    HasAt b 38 (be8 (if ∃ n : Fin 23, (s.gbm.links[n.val]).lost = true then 1 else 0))

/-- FILTER-READ and PATTERN-READ name a filter 1 to 20, carry its record and its valves, and change no state (R24, R168).
The order of PATTERN-READ's fields is the model's (log 21). -/
def Obligations.FilterReadsReportTheRecord : Prop :=
  ∀ s : State, Ready s →
    (∀ b : Byte, NoFilter b →
      exec (.filterRead [b]) s = .next (refused s .filterRead [b] .range 0) ∧
      exec (.patternRead [b]) s = .next (refused s .patternRead [b] .range 0)) ∧
    ∀ f : FilterId,
      let r := s.filter f
      let pendingCode := r.pending.map fun m => (if m.toService then Pattern.service else Pattern.isolated).code
      let start := r.pending.map fun m => m.start.toNat
      let views := ([.inf, .eff, .wst, .wwi, .air, .ftw] : List Valve).map fun v => (r.view.get v).code * 4 ^ v.index
      (∃ b : List Byte,
        exec (.filterRead [filterByte f]) s =
          .next (granted (taken s .filterRead [filterByte f]) .filterRead b) ∧ b.length = 30 ∧
        HasAt b 0 (be8 (f.val + 1)) ∧ HasAt b 1 (be8 r.state.code) ∧ HasAt b 2 (be8 (heldCode r.held)) ∧
        HasAt b 3 (opt8 (r.commanded.map Pattern.code)) ∧ HasAt b 4 (opt8 pendingCode) ∧ HasAt b 5 (opt32 start) ∧
        HasAt b 9 (be16 views.sum) ∧
        HasAt b 11 (be8 ((if r.drift then 1 else 0) + (if r.totalClear then 2 else 0) + (if r.shortRipen then 4 else 0) +
          (if r.rewashPending then 8 else 0) + (if ∃ e ∈ s.wq.entries, e.filter = f then 16 else 0))) ∧
        HasAt b 12 (opt8 (r.trip.map fun i => i.val)) ∧ HasAt b 13 (opt8 (r.fault.map fun x => x.cause.code)) ∧
        HasAt b 14 (opt8 (r.fault.bind fun x => x.valve.map Valve.index)) ∧ HasAt b 15 (be32 r.runSeconds) ∧
        HasAt b 19 (be32 r.filteredVolume) ∧ HasAt b 23 (be16 r.headloss.toNat) ∧ HasAt b 25 (be16 r.level.toNat) ∧
        HasAt b 27 (be16 r.turbidity.toNat) ∧ HasAt b 29 (opt8 ((s.slotNaming f).map fun c => c.val))) ∧
      exec (.patternRead [filterByte f]) s =
        .next (granted (taken s .patternRead [filterByte f]) .patternRead
          (be8 (([.inf, .eff, .wst, .wwi, .air, .ftw] : List Valve).map fun v =>
              if (s.fnode f).image.get v then 2 ^ v.index else 0).sum ++
            be16 views.sum ++ opt8 (r.commanded.map Pattern.code) ++ opt8 pendingCode ++ opt32 start))

/-- QUEUE-READ carries the change number, the number of entries and one item of ten bytes for each entry in order, and
changes no state (R43, R168). -/
def Obligations.QueueReadListsTheEntries : Prop :=
  ∀ s : State, Ready s → ∃ b : List Byte,
    exec (.queueRead []) s = .next (granted (taken s .queueRead []) .queueRead b) ∧
    b.length = 3 + 10 * s.wq.entries.length ∧
    HasAt b 0 (be16 s.wq.changeNumber.toNat) ∧ HasAt b 2 (be8 s.wq.entries.length) ∧
    ∀ (i : Nat) (e : QueueEntry), s.wq.entries[i]? = some e →
      HasAt b (3 + 10 * i) (be8 (e.filter.val + 1)) ∧ HasAt b (4 + 10 * i) (be8 e.cls.code) ∧
      HasAt b (5 + 10 * i) (be8 e.causes.bits) ∧ HasAt b (6 + 10 * i) (be32 e.entryTime.toNat) ∧
      HasAt b (10 + 10 * i) (be8 (s.filter e.filter).state.code) ∧
      HasAt b (11 + 10 * i) (be8 (heldCode (s.filter e.filter).held)) ∧
      HasAt b (12 + 10 * i) (be8 ((if (s.filter e.filter).pending.any fun m => !m.toService then 1 else 0) +
        if (s.filter e.filter).rewashPending then 2 else 0))

namespace Sys2Proof.Claim

/-- The start times of the supplies of a context that are STARTING (R99). -/
def startTimes (w : WashContext) : List Seconds :=
  [w.airSupply, w.washSupply].filterMap fun
    | .starting _ _ start => some start
    | _ => none

/-- The ripen watch of a context runs: it is ACTIVE in TIMING of a RIPEN step (R115). -/
def WatchRuns (w : WashContext) : Prop := w.state = .active ∧ w.phase = .timing ∧ w.kind? = some .ripen

end Sys2Proof.Claim

/-- CONTEXT-READ names a slot 0 to 3, carries two bytes of a FREE context and the 67 of its layout of any other, and changes
no state (R91, R125, R168; the absent fields are those of log 22). -/
def Obligations.ContextReadReportsTheWash : Prop :=
  ∀ s : State, Ready s →
    (∀ b : Byte, 3 < b.toNat → exec (.contextRead [b]) s = .next (refused s .contextRead [b] .range 0)) ∧
    ∀ c : Slot, ∃ b : List Byte,
      exec (.contextRead [slotByte c]) s = .next (granted (taken s .contextRead [slotByte c]) .contextRead b) ∧
      HasAt b 0 (be8 c.val) ∧ HasAt b 1 (be8 (ctxCode (s.ctx c))) ∧
      (s.ctx c = none → b.length = 2) ∧
      ∀ w, s.ctx c = some w →
        b.length = 67 ∧ HasAt b 2 (be8 (w.filter.val + 1)) ∧ HasAt b 3 (be8 w.profile.number) ∧
        HasAt b 4 (be8 w.profile.steps.length) ∧ HasAt b 5 (be8 w.cls.code) ∧ HasAt b 6 (be8 w.causes.bits) ∧
        HasAt b 7 (be32 w.entryTime.toNat) ∧ HasAt b 11 (be32 w.admissionTime.toNat) ∧ HasAt b 15 (be8 w.stepIndex) ∧
        HasAt b 16 (be8 (kindCode w.kind?)) ∧
        (∀ p, w.planned? = some p → HasAt b 17 (be16 p.step.duration) ∧ HasAt b 19 (be16 p.step.flowTarget) ∧
          HasAt b 21 (be16 p.step.fallbackFlow) ∧ HasAt b 23 (be16 p.step.levelTarget) ∧
          HasAt b 25 (be8 (if p.step.holdPoint then 1 else 0))) ∧
        (w.planned? = none → HasAt b 17 (List.replicate 9 0xFF)) ∧
        HasAt b 26 (be8 w.phase.code) ∧ HasAt b 27 (be32 (s.mc.seconds - w.stepStart).toNat) ∧
        HasAt b 31 (be32 (s.mc.seconds - w.phaseStart).toNat) ∧
        (w.state = .orphan → HasAt b 35 (List.replicate 6 0xFF)) ∧
        (w.state = .exiting → HasAt b 35 (be16 s.plant.travelLimit) ∧
          ∀ t, w.exitStart = some t → HasAt b 37 (be32 (s.plant.travelLimit - (s.mc.seconds - t).toNat))) ∧
        (w.state = .active → w.phase = .acquire → HasAt b 35 (be16 s.plant.headerWait) ∧
          HasAt b 37 (be32 (s.plant.headerWait - (s.mc.seconds - w.phaseStart).toNat))) ∧
        (w.state = .active → w.phase = .setting → HasAt b 35 (be16 s.plant.travelLimit) ∧
          HasAt b 37 (be32 (s.plant.travelLimit - (s.mc.seconds - w.phaseStart).toNat))) ∧
        (w.state = .active → w.phase = .starting → HasAt b 35 (be16 s.plant.startConfirm) ∧
          ∀ t ∈ startTimes w, (∀ u ∈ startTimes w, (s.mc.seconds - u).toNat ≤ (s.mc.seconds - t).toNat) →
            HasAt b 37 (be32 (s.plant.startConfirm - (s.mc.seconds - t).toNat))) ∧
        (w.state = .active → w.phase = .ramping → HasAt b 35 (be16 s.plant.rampWindow) ∧
          ∀ t, w.windowStart = some t → HasAt b 37 (be32 (s.plant.rampWindow - (s.mc.seconds - t).toNat))) ∧
        (∀ p, w.state = .active → w.phase = .timing → w.planned? = some p → HasAt b 35 (be16 p.step.duration) ∧
          HasAt b 37 (be32 (p.step.duration - (s.mc.seconds - w.phaseStart).toNat))) ∧
        (w.state = .active → w.phase = .holdpoint → HasAt b 35 (be16 s.plant.holdLimit) ∧
          HasAt b 37 (be32 (s.plant.holdLimit - (s.mc.seconds - w.phaseStart).toNat))) ∧
        HasAt b 41 (be8 w.progress.code) ∧
        HasAt b 42 (be8 ((if s.holds c .air then 1 else 0) + (if s.holds c .wash then 2 else 0) +
          if s.holds c .ftw then 4 else 0)) ∧
        (s.headerAwaited c = none → HasAt b 43 [0xFF, 0xFF]) ∧
        (∀ h, s.headerAwaited c = some h → HasAt b 43 (be8 h.code ++ be8 ((s.header h).waiting.idxOf c))) ∧
        HasAt b 45 (be16 w.tankRemaining.toNat) ∧ HasAt b 47 (be16 w.basinRemaining.toNat) ∧
        HasAt b 49 (be8 ((if w.reduced then 1 else 0) + if w.fallbackUsed then 2 else 0)) ∧
        HasAt b 50 (be8 (if w.secondAttempt then 1 else 0)) ∧ HasAt b 51 (be16 w.setpoint) ∧
        HasAt b 53 (opt8 (w.exitKind.map ExitKind.code)) ∧ HasAt b 54 (opt8 (w.cause.map FaultCause.code)) ∧
        HasAt b 55 (opt8 (w.secondCause.map FaultCause.code)) ∧
        (w.kind? = some .ripen ∨ w.ripenResult ≠ .none →
          HasAt b 56 (opt32 (w.sustainStart.map fun t => t.toNat)) ∧
          (∀ t, WatchRuns w → w.sustainStart = some t →
            HasAt b 60 (be32 (s.plant.ripenSustain - (s.mc.seconds - t).toNat))) ∧
          (¬ WatchRuns w ∨ w.sustainStart = none → HasAt b 60 [0xFF, 0xFF, 0xFF, 0xFF]) ∧
          HasAt b 64 (be8 w.ripenResult.code) ∧
          HasAt b 65 (opt16 ((s.filterConfig w.filter).settings.map fun x => x.returnLimit))) ∧
        (w.kind? ≠ some .ripen → w.ripenResult = .none → HasAt b 56 (List.replicate 11 0xFF))

/-- RESOURCE-READ carries the 72 bytes of its layout; the margins are signed, and free while a reserve has no value (R113,
R168; log 11). The model's choices are the order of a header's two holdings, that of their grants (log 45), and 1 and 0 for
LOST (log 44). -/
def Obligations.ResourceReadReportsTheSharedPlant : Prop :=
  ∀ s : State, Ready s → ∃ (n : Nat) (b : List Byte),
    exec (.resourceRead []) s = .next (granted { taken s .resourceRead [] with free := n } .resourceRead b) ∧
    b.length = 72 ∧
    (∀ x y, s.plant.tankReserve = some x → s.plant.basinReserve = some y → n = s.free) ∧
    (∀ h pos, (h, pos) ∈ [(Header.air, 0), (Header.wash, 10), (Header.ftw, 20)] →
      HasAt b pos (be8 (if h = .ftw then 2 else 1)) ∧
      (∀ i, i < 2 → ∀ x, (s.header h).holdings[i]? = some x →
        HasAt b (pos + 1 + 2 * i) (be8 x.slot.val ++ be8 (if x.orphan then 1 else 0))) ∧
      (∀ i, i < 2 → (s.header h).holdings[i]? = none → HasAt b (pos + 1 + 2 * i) [0xFF, 0xFF]) ∧
      HasAt b (pos + 5) (be8 (s.header h).waiting.length) ∧
      (∀ i, i < 4 → ∀ c, (s.header h).waiting[i]? = some c → HasAt b (pos + 6 + i) (be8 c.val)) ∧
      ∀ i, i < 4 → (s.header h).waiting[i]? = none → HasAt b (pos + 6 + i) [0xFF]) ∧
    (∀ p pos, (p, pos) ∈ [(SupplyPair.blowers, 30), (SupplyPair.pumps, 34)] →
      let h : Header := match p with | .blowers => .air | .pumps => .wash
      ((s.header h).holdings = [] → HasAt b pos [0, 0xFF, 0xFF]) ∧
      ∀ x l w, (s.header h).holdings = x :: l → s.ctx x.slot = some w →
        HasAt b (pos + 2) (be8 x.slot.val) ∧
        match w.supply p with
        | .stopped => HasAt b pos [0, 0xFF]
        | .starting u _ _ => HasAt b pos (be8 1 ++ be8 (if u = .a then 0 else 1))
        | .running u _ => HasAt b pos (be8 2 ++ be8 (if u = .a then 0 else 1))) ∧
    HasAt b 33 (be8 ((if s.gbm.airNode.image.a then 1 else 0) + if s.gbm.airNode.image.b then 2 else 0)) ∧
    HasAt b 37 (be8 ((if s.gbm.washNode.image.a then 1 else 0) + if s.gbm.washNode.image.b then 2 else 0)) ∧
    HasAt b 38 (be16 s.gbm.washNode.image.setpoint) ∧
    HasAt b 40 (be8 ((if s.ra.pumpDuty = .b then 1 else 0) + if s.ra.blowerDuty = .b then 2 else 0)) ∧
    HasAt b 41 (be8 ((if s.ra.pumpFault.a then 1 else 0) + (if s.ra.pumpFault.b then 2 else 0) +
      (if s.ra.blowerFault.a then 4 else 0) + if s.ra.blowerFault.b then 8 else 0)) ∧
    (∀ i, s.gbm.washNode.input = some i → HasAt b 42 (be8 ((if i.a then 1 else 0) + if i.b then 2 else 0) ++ be16 i.flow ++
      be16 i.tank)) ∧
    (s.gbm.washNode.input = none → HasAt b 42 [0, 0, 0, 0, 0]) ∧
    HasAt b 47 (be8 (if s.isLost .washWater then 1 else 0)) ∧
    (∀ i, s.gbm.airNode.input = some i → HasAt b 48 (be8 ((if i.a then 1 else 0) + if i.b then 2 else 0) ++
      be16 i.pressure)) ∧
    (s.gbm.airNode.input = none → HasAt b 48 [0, 0, 0]) ∧ HasAt b 51 (be8 (if s.isLost .airNode then 1 else 0)) ∧
    (∀ i, s.gbm.wasteInput = some i → HasAt b 52 (be16 i.basin ++ be8 (if i.recovery then 1 else 0))) ∧
    (s.gbm.wasteInput = none → HasAt b 52 [0, 0, 0]) ∧ HasAt b 55 (be8 (if s.isLost .waste then 1 else 0)) ∧
    HasAt b 56 (be32 s.ra.tankTotal.toNat) ∧ HasAt b 60 (be32 s.ra.basinTotal.toNat) ∧
    (∀ x, s.plant.tankReserve = some x → HasAt b 64 (beSigned ((s.tankAvailable : Int) - s.ra.tankTotal - x))) ∧
    ∀ x, s.plant.basinReserve = some x → HasAt b 68 (beSigned ((s.basinFree : Int) - s.ra.basinTotal - x))

namespace Sys2Proof.Claim

/-- The latest input of a node as its answer's payload (R169). -/
def inputPayload (s : State) : NodeId → Option (List Byte)
  | .filter f => (s.fnode f).input.map fun i =>
      be16 i.word.toNat ++ be16 i.headloss.toNat ++ be16 i.level.toNat ++ be16 i.turbidity.toNat
  | .washWater => s.gbm.washNode.input.map fun i =>
      be8 ((if i.a then 1 else 0) + if i.b then 2 else 0) ++ be16 i.flow ++ be16 i.tank
  | .airNode => s.gbm.airNode.input.map fun i => be8 ((if i.a then 1 else 0) + if i.b then 2 else 0) ++ be16 i.pressure
  | .waste => s.gbm.wasteInput.map fun i => be16 i.basin ++ be8 (if i.recovery then 1 else 0)

/-- The output image of a node as the image of its poll (R169). -/
def imagePayload (s : State) : NodeId → List Byte
  | .filter f => be8 (([.inf, .eff, .wst, .wwi, .air, .ftw] : List Valve).map fun v =>
      if (s.fnode f).image.get v then 2 ^ v.index else 0).sum
  | .washWater => be8 ((if s.gbm.washNode.image.a then 1 else 0) + if s.gbm.washNode.image.b then 2 else 0) ++
      be16 s.gbm.washNode.image.setpoint
  | .airNode => be8 ((if s.gbm.airNode.image.a then 1 else 0) + if s.gbm.airNode.image.b then 2 else 0)
  | .waste => []

/-- A node is polled, in the sense of the node table (R141). -/
def isPolled (s : State) : NodeId → Prop
  | .filter f => f.val < s.gbm.settings.filterCount
  | _ => True

/-- Write owed of a node. -/
def owes (s : State) : NodeId → Prop
  | .filter f => (s.fnode f).owed = true
  | .washWater => s.gbm.washNode.owed = true
  | .airNode => s.gbm.airNode.owed = true
  | .waste => False

end Sys2Proof.Claim

/-- NODE-READ names an address 1 to 23, carries the 46 bytes of its layout, and changes no state (R155, R168). NODE-CLEAR,
outside SURVEY, sets the total misses of all entries, scans with a miss and overruns to 0, carries the last two as they
stood, and changes nothing else (R156). The order of NODE-CLEAR's fields is the model's (log 21), and so are the cursor that
NODE-READ shows between two scans, the advanced one (log 42), and bit 1 in the status of nodes 21 to 23 (log 46). -/
def Obligations.NodeTableIsReadAndCleared : Prop :=
  ∀ s : State, Ready s →
    (s.mc.mode = .survey → exec (.nodeClear []) s = .next (refused s .nodeClear [] .mode 0)) ∧
    (s.mc.mode ≠ .survey → exec (.nodeClear []) s = .next (granted { taken s .nodeClear [] with
      gbm := { s.gbm with
        links := s.gbm.links.map fun l => { l with totalMisses := 0 }
        scansWithMiss := 0
        overruns := 0 } } .nodeClear (be16 s.gbm.scansWithMiss ++ be16 s.gbm.overruns))) ∧
    (∀ b : Byte, b.toNat = 0 ∨ 23 < b.toNat → exec (.nodeRead [b]) s = .next (refused s .nodeRead [b] .range 0)) ∧
    ∀ n : NodeId,
      let address := match n with | .filter f => f.val + 1 | .washWater => 21 | .airNode => 22 | .waste => 23
      let l := s.link n
      ∃ (b : List Byte) (flags : Nat),
        exec (.nodeRead [BitVec.ofNat 8 address]) s =
          .next (granted (taken s .nodeRead [BitVec.ofNat 8 address]) .nodeRead b) ∧
        b.length = 46 ∧ HasAt b 0 (be8 address) ∧ HasAt b 1 (be8 flags) ∧ flags < 32 ∧
        (flags.testBit 0 = true ↔ isPolled s n) ∧ flags.testBit 1 = l.lost ∧ (flags.testBit 2 = true ↔ owes s n) ∧
        (flags.testBit 3 = true ↔ s.gbm.phase = .awaiting n .writeIo) ∧
        (flags.testBit 4 = true ↔ ∃ f, n = .filter f ∧ s.gbm.cursor = some f) ∧
        HasAt b 2 (be8 l.misses) ∧ HasAt b 3 (be16 l.totalMisses) ∧
        HasAt b 5 (opt8 (l.lastCode.map fun
          | .readIo => 1
          | .writeIo => 2
          | .readTotal => 3
          | .clearTotal => 4)) ∧
        HasAt b 6 (opt32 (l.lastAnswer.map fun t => t.toNat)) ∧
        HasAt b 10 (opt32 (l.lastAnswer.map fun t => (s.mc.seconds - t).toNat)) ∧
        HasAt b 14 (opt8 (l.status.map fun x => x.toNat)) ∧
        HasAt b 15 ((inputPayload s n).getD [] ++ List.replicate (8 - ((inputPayload s n).getD []).length) 0xFF) ∧
        (∀ f, n = .filter f → HasAt b 23 (opt32 ((s.fnode f).totalizer.map fun x => x.toNat)) ∧
          HasAt b 27 (be16 (s.fnode f).changeSet.toNat)) ∧
        ((∀ f, n ≠ .filter f) → HasAt b 23 [0xFF, 0xFF, 0xFF, 0xFF, 0, 0]) ∧
        HasAt b 29 (imagePayload s n ++ List.replicate (3 - (imagePayload s n).length) 0xFF) ∧
        HasAt b 32 (be8 s.gbm.settings.filterCount) ∧ HasAt b 33 (be16 s.gbm.settings.scanPeriod) ∧
        HasAt b 35 (be8 s.gbm.settings.replyWindow) ∧ HasAt b 36 (be8 s.gbm.settings.missLimit) ∧
        HasAt b 37 (be32 s.gbm.scanCount.toNat) ∧ HasAt b 41 (be16 s.gbm.scansWithMiss) ∧
        HasAt b 43 (be16 s.gbm.overruns) ∧ HasAt b 45 (opt8 (s.gbm.cursor.map fun f => f.val + 1))

/-- RECORD-READ refuses an index above 31 RANGE and one at or above the records held STATE, and otherwise carries the number
held, the next sequence number and the 34 bytes of the record at that age; it changes no state (R177, R168). The order of
the reply's fields is the model's (log 21). -/
def Obligations.RecordReadIsByAge : Prop :=
  ∀ (s : State) (i : Byte), Ready s →
    (31 < i.toNat → exec (.recordRead [i]) s = .next (refused s .recordRead [i] .range 0)) ∧
    (i.toNat ≤ 31 → s.wr.records.length ≤ i.toNat →
      exec (.recordRead [i]) s = .next (refused s .recordRead [i] .state 0)) ∧
    ∀ r, i.toNat ≤ 31 → s.wr.records[i.toNat]? = some r → ∃ b : List Byte,
      exec (.recordRead [i]) s = .next (granted (taken s .recordRead [i]) .recordRead b) ∧ b.length = 37 ∧
      HasAt b 0 (be8 s.wr.records.length) ∧ HasAt b 1 (be16 s.wr.nextSequence.toNat) ∧
      HasAt b 3 (be16 r.sequence.toNat) ∧ HasAt b 5 (be8 (r.filter.val + 1)) ∧ HasAt b 6 (be8 r.profile) ∧
      HasAt b 7 (be8 r.cls.code) ∧ HasAt b 8 (be8 r.causes.bits) ∧ HasAt b 9 (be32 r.admissionTime.toNat) ∧
      HasAt b 13 (be32 r.endTime.toNat) ∧ HasAt b 17 (be8 r.outcome.code) ∧
      HasAt b 18 (be8 (if r.reduced then 1 else 0)) ∧ HasAt b 19 (be8 (if r.secondAttempt then 1 else 0)) ∧
      HasAt b 20 (be16 r.waterPlanned) ∧ HasAt b 22 (opt8 (r.cause.map FaultCause.code)) ∧
      HasAt b 23 (opt8 (r.secondCause.map FaultCause.code)) ∧ HasAt b 24 (be8 r.ripenResult.code) ∧
      (r.snapshot = none → HasAt b 25 [0] ∧ HasAt b 26 (List.replicate 11 0xFF)) ∧
      ∀ x, r.snapshot = some x → HasAt b 25 [1] ∧ HasAt b 26 (be8 x.step.index) ∧ HasAt b 27 (be8 (kindCode x.step.kind)) ∧
        HasAt b 28 (be8 x.step.phase.code) ∧ HasAt b 29 (be32 x.step.elapsed.toNat) ∧
        HasAt b 33 (be8 (([.inf, .eff, .wst, .wwi, .air, .ftw] : List Valve).map fun v =>
          if x.valves.commanded.get v then 2 ^ v.index else 0).sum) ∧
        HasAt b 34 (be16 (([.inf, .eff, .wst, .wwi, .air, .ftw] : List Valve).map fun v =>
          (x.valves.seen.get v).code * 4 ^ v.index).sum) ∧
        HasAt b 36 (be8 ((if x.valves.headers.air then 1 else 0) + (if x.valves.headers.wash then 2 else 0) +
          if x.valves.headers.ftw then 4 else 0))

/-- NOTICE-READ carries the enables, the pending kinds, each kind's count and last filter, and ATTN, and changes no state;
NOTICE-ENABLE replaces the enables and nothing else, and carries them (R172, R168). The order of NOTICE-ENABLE's field is
the model's (log 21). -/
def Obligations.NoticesAreReadAndEnabled : Prop :=
  ∀ s : State, Ready s →
    (∃ b : List Byte,
      exec (.noticeRead []) s = .next (granted (taken s .noticeRead []) .noticeRead b) ∧ b.length = 29 ∧
      HasAt b 0 (be16 s.cs.working.enables.toNat) ∧
      HasAt b 2 (be16 ((List.finRange 12).map fun k => if (s.nu.accounts[k.val]).pending then 2 ^ k.val else 0).sum) ∧
      (∀ k : Fin 12, HasAt b (4 + 2 * k.val) (be8 (s.nu.accounts[k.val]).count ++ be8 (s.nu.accounts[k.val]).lastFilter)) ∧
      HasAt b 28 (be8 (if s.nu.attnDriven then 1 else 0))) ∧
    ∀ a b : Byte,
      let set := BitVec.ofNat 12 (a.toNat * 256 + b.toNat)
      exec (.noticeEnable [a, b]) s =
        .next (granted { taken s .noticeEnable [a, b] with
          cs := { s.cs with working := { s.cs.working with enables := set } } } .noticeEnable (be16 set.toNat))

namespace Sys2Proof.Claim

/-! ### Vocabulary of the profiles and the configuration -/

/-- A step is a WATER or AIRWATER step. -/
def IsWater (p : ProfileStep) : Prop := p.kind = .water ∨ p.kind = .airwater

/-- Every field of a step holds a value allowed for its kind (R68). -/
def FieldsAllowed (p : ProfileStep) : Prop :=
  1 ≤ p.duration ∧ p.duration ≤ 1800 ∧
    match p.kind with
    | .drain | .refill => p.flowTarget = 0 ∧ p.fallbackFlow = 0 ∧ p.levelTarget ≤ 3000
    | .air | .settle => p.flowTarget = 0 ∧ p.fallbackFlow = 0 ∧ p.levelTarget = 0
    | .airwater | .water => 50 ≤ p.flowTarget ∧ p.flowTarget ≤ 2000 ∧ p.levelTarget = 0 ∧
        (p.fallbackFlow = 0 ∨ (50 ≤ p.fallbackFlow ∧ p.fallbackFlow < p.flowTarget))
    | .ripen => p.flowTarget = 0 ∧ p.fallbackFlow = 0 ∧ p.levelTarget = 0 ∧ p.holdPoint = false

/-- The step at an index of a profile passes the four tests of R69. -/
def StepPasses (steps : List ProfileStep) (i : Nat) (p : ProfileStep) : Prop :=
  FieldsAllowed p ∧ (i = 0 → p.kind = .drain) ∧
    ((p.kind = .air ∨ p.kind = .airwater) → ∀ j q, j < i → steps[j]? = some q → q.kind ≠ .water) ∧
    (p.kind = .ripen → i + 1 = steps.length)

/-- Every step below an index passes. -/
def PassBelow (steps : List ProfileStep) (n : Nat) : Prop := ∀ i p, i < n → steps[i]? = some p → StepPasses steps i p

/-- The ten bytes of a step (R168). -/
def stepWire (p : ProfileStep) : List Byte :=
  be8 (kindCode (some p.kind)) ++ be16 p.duration ++ be16 p.flowTarget ++ be16 p.fallbackFlow ++ be16 p.levelTarget ++
    be8 (if p.holdPoint then 1 else 0)

/-- The validity of a profile and its failing index. -/
def validityWire (steps : List ProfileStep) : List Byte :=
  match failingIndex steps with
  | none => [1, 0xFF]
  | some i => [0] ++ be8 i

/-- The demands of a valid profile; absent otherwise (log 21). -/
def demandWire (rate : Nat) (steps : List ProfileStep) : List Byte :=
  match failingIndex steps with
  | none => be16 (steps.map plannedWater).sum ++ be16 (steps.map (plannedWaste rate)).sum
  | some _ => [0xFF, 0xFF, 0xFF, 0xFF]

/-- The step kind of a code. -/
def wireKind : Nat → StepKind
  | 0 => .drain
  | 1 => .air
  | 2 => .airwater
  | 3 => .water
  | 4 => .settle
  | 5 => .refill
  | _ => .ripen

/-- The step at a byte position of a body. -/
def wireStep (body : List Byte) (i : Nat) : ProfileStep :=
  ⟨wireKind (u8 body i), u16 body (i + 1), u16 body (i + 3), u16 body (i + 5), u16 body (i + 7), u8 body (i + 9) = 1⟩

/-- The step at a byte position of a body is in the ranges of R70, its hold point 0 or 1 (log 24). -/
def WireStepOk (body : List Byte) (i : Nat) : Prop :=
  u8 body i ≤ 6 ∧ 1 ≤ u16 body (i + 1) ∧ u16 body (i + 1) ≤ 1800 ∧ u16 body (i + 3) ≤ 2000 ∧ u16 body (i + 5) ≤ 2000 ∧
    u16 body (i + 7) ≤ 3000 ∧ u8 body (i + 9) ≤ 1

/-- A PROFILE-WRITE body is in the ranges of R70. -/
def ProfileWireOk (body : List Byte) : Prop :=
  u8 body 0 ≤ 7 ∧ 3 ≤ u8 body 1 ∧ u8 body 1 ≤ 12 ∧ ∀ i, i < u8 body 1 → WireStepOk body (2 + 10 * i)

/-- The tunable fields in bytes 1 to 13 are in the ranges of R90, the flag 0 or 1 (log 24). -/
def SettingsOk (body : List Byte) : Prop :=
  u8 body 1 ≤ 7 ∧ (100 ≤ u16 body 2 ∧ u16 body 2 ≤ 3000) ∧ (50 ≤ u16 body 4 ∧ u16 body 4 ≤ 5000) ∧
    (20 ≤ u16 body 6 ∧ u16 body 6 ≤ 2000) ∧ (1 ≤ u8 body 8 ∧ u8 body 8 ≤ 240) ∧ u32 body 9 ≤ 999999 ∧ u8 body 13 ≤ 1

/-- The tunable fields in bytes 1 to 13. -/
def wireSettings (body : List Byte) : FilterSettings :=
  ⟨u8 body 1, u16 body 2, u16 body 4, u16 body 6, u8 body 8, u32 body 9, u8 body 13 = 1⟩

/-- The tunable fields as bytes. -/
def settingsWire (c : FilterSettings) : List Byte :=
  be8 c.profile ++ be16 c.headlossLimit ++ be16 c.breakthroughLimit ++ be16 c.returnLimit ++ be8 c.runLimit ++
    be32 c.volumeLimit ++ be8 (if c.isolate then 1 else 0)

/-- The settings of a PLANT-CONFIG body are in the ranges of R180. -/
def PlantOk (b : List Byte) : Prop :=
  (2 ≤ u8 b 0 ∧ u8 b 0 ≤ 20) ∧ (1 ≤ u8 b 1 ∧ u8 b 1 ≤ 4) ∧ (50 ≤ u16 b 2 ∧ u16 b 2 ≤ 2000) ∧ u16 b 4 ≤ 20000 ∧
    (10 ≤ u16 b 6 ∧ u16 b 6 ≤ 900) ∧ u16 b 8 ≤ 7200 ∧ u16 b 10 ≤ 9999 ∧ u16 b 12 ≤ 9999 ∧
    (10 ≤ u16 b 14 ∧ u16 b 14 ≤ 500) ∧ (100 ≤ u16 b 16 ∧ u16 b 16 ≤ 1000 ∧ u16 b 16 % 100 = 0) ∧
    (1 ≤ u8 b 18 ∧ u8 b 18 ≤ 20) ∧ (2 ≤ u8 b 19 ∧ u8 b 19 ≤ 15) ∧ (10 ≤ u16 b 20 ∧ u16 b 20 ≤ 240) ∧
    (60 ≤ u16 b 22 ∧ u16 b 22 ≤ 3600) ∧ (5 ≤ u16 b 24 ∧ u16 b 24 ≤ 60) ∧ (20 ≤ u16 b 26 ∧ u16 b 26 ≤ 300) ∧
    u8 b 28 ≤ 20 ∧ (60 ≤ u16 b 29 ∧ u16 b 29 ≤ 7200) ∧ (10 ≤ u16 b 31 ∧ u16 b 31 ≤ 900) ∧
    (10 ≤ u16 b 33 ∧ u16 b 33 ≤ 600) ∧ (10 ≤ u16 b 35 ∧ u16 b 35 ≤ 600) ∧ u16 b 37 ≤ 9999 ∧ u16 b 39 ≤ 9999

/-- The settings of a PLANT-CONFIG body. -/
def wirePlant (b : List Byte) : PlantConfig where
  filterCount := u8 b 0
  maxOut := u8 b 1
  maxFilterFlow := some (u16 b 2)
  fallbackFlow := some (u16 b 4)
  flowTimeout := u16 b 6
  rotationSpacing := u16 b 8
  tankReserve := some (u16 b 10)
  basinReserve := some (u16 b 12)
  ftwRate := u16 b 14
  scanPeriod := u16 b 16
  replyWindow := u8 b 18
  missLimit := u8 b 19
  travelLimit := u16 b 20
  headerWait := u16 b 22
  startConfirm := u16 b 24
  rampWindow := u16 b 26
  flowTolerance := u8 b 28
  holdLimit := u16 b 29
  ripenSustain := u16 b 31
  turbidityConfirm := u16 b 33
  headlossConfirm := u16 b 35
  tankThreshold := some (u16 b 37)
  basinThreshold := some (u16 b 39)

/-- The places of the plant settings in a CONFIG-READ body with selector 0. -/
def plantLayout (p : PlantConfig) : List (Nat × List Byte) :=
  [(0, be8 p.filterCount), (1, be8 p.maxOut), (2, opt16 p.maxFilterFlow), (4, opt16 p.fallbackFlow),
    (6, be16 p.flowTimeout), (8, be16 p.rotationSpacing), (10, opt16 p.tankReserve), (12, opt16 p.basinReserve)] ++
  [(14, be16 p.ftwRate), (16, be16 p.scanPeriod), (18, be8 p.replyWindow), (19, be8 p.missLimit),
    (20, be16 p.travelLimit), (22, be16 p.headerWait), (24, be16 p.startConfirm), (26, be16 p.rampWindow)] ++
  [(28, be8 p.flowTolerance), (29, be16 p.holdLimit), (31, be16 p.ripenSustain), (33, be16 p.turbidityConfirm),
    (35, be16 p.headlossConfirm), (37, opt16 p.tankThreshold), (39, opt16 p.basinThreshold)]

/-- A working configuration in place of another; R is recomputed and the floor evaluated when the max filter flow or the
fallback flow has changed (R48). -/
def reconfigured (t : State) (w : WorkingConfig) : State :=
  let u := { t with cs := { t.cs with working := w } }
  if w.plant.maxFilterFlow = t.plant.maxFilterFlow ∧ w.plant.fallbackFlow = t.plant.fallbackFlow then u
  else State.evalFloor { u with
    au := { t.au with
      required := requiredFor (if t.au.fresh then some t.au.reportedFlow else w.plant.fallbackFlow) w.plant.maxFilterFlow } }

end Sys2Proof.Claim

/-! ### Profiles, configuration, modes -/

/-- A profile is valid when every step passes the tests of R69 and one step uses water; the failing index is the first step
that fails, or the last when only the water step is missing (R69). The planned volumes are products of rate and duration
over 1000, rounded up, and the demands are their sums (R71). -/
def Obligations.ProfilesAreValidatedAndPlanned : Prop :=
  (∀ steps : List ProfileStep, steps ≠ [] →
    (failingIndex steps = none ↔ PassBelow steps steps.length ∧ ∃ p ∈ steps, IsWater p) ∧
    ∀ i, failingIndex steps = some i ↔
      (PassBelow steps i ∧ ∃ p, steps[i]? = some p ∧ ¬ StepPasses steps i p) ∨
      (PassBelow steps steps.length ∧ (∀ p ∈ steps, ¬ IsWater p) ∧ i + 1 = steps.length)) ∧
  ∀ (rate : Nat) (p : ProfileStep),
    (IsWater p → p.flowTarget * p.duration ≤ plannedWater p * 1000 ∧
      plannedWater p * 1000 < p.flowTarget * p.duration + 1000 ∧ plannedWaste rate p = plannedWater p) ∧
    (p.kind = .ripen → plannedWater p = 0 ∧ rate * p.duration ≤ plannedWaste rate p * 1000 ∧
      plannedWaste rate p * 1000 < rate * p.duration + 1000) ∧
    (¬ IsWater p → p.kind ≠ .ripen → plannedWater p = 0 ∧ plannedWaste rate p = 0) ∧
    ∀ steps : List ProfileStep,
      waterDemand steps = (steps.map plannedWater).sum ∧ wasteDemand rate steps = (steps.map (plannedWaste rate)).sum

/-- PROFILE-READ names a profile 0 to 7 and carries it as held (R72). PROFILE-WRITE is refused RANGE by the tests of R70 and
otherwise replaces the profile whole, valid or not; both carry the validity and the demands (R70). That a hold point byte above
1 is refused is the model's reading (log 24); the order of the reply's fields (log 21) and 1 and 0 for the validity (log 44)
are its choices. -/
def Obligations.ProfilesAreReadAndWritten : Prop :=
  ∀ s : State, Ready s →
    (∀ b : Byte, 7 < b.toNat → exec (.profileRead [b]) s = .next (refused s .profileRead [b] .range 0)) ∧
    (∀ (b : Byte) (steps : List ProfileStep), s.cs.working.profiles[b.toNat]? = some steps →
      exec (.profileRead [b]) s = .next (granted (taken s .profileRead [b]) .profileRead
        ([b] ++ be8 steps.length ++ steps.flatMap stepWire ++ validityWire steps ++ demandWire s.plant.ftwRate steps))) ∧
    (s.mc.mode = .setup → ∀ body : List Byte, body.length = 2 + 10 * u8 body 1 → body.length ≤ 240 →
      (¬ ProfileWireOk body → exec (.profileWrite body) s = .next (refused s .profileWrite body .range 0)) ∧
      (ProfileWireOk body → ∀ n : Fin 8, u8 body 0 = n.val →
        let steps := (List.range (u8 body 1)).map fun i => wireStep body (2 + 10 * i)
        exec (.profileWrite body) s = .next (granted { taken s .profileWrite body with
          cs := { s.cs with working := { s.cs.working with profiles := s.cs.working.profiles.set n.val steps } } }
          .profileWrite (be8 n.val ++ validityWire steps ++ demandWire s.plant.ftwRate steps))))

/-- CONFIG-READ names the plant configuration or a filter's and changes no state; FILTER-CONFIG and PLANT-CONFIG replace
their part of the working configuration whole, or are refused RANGE and change nothing; DISCARD takes the store, or the
defaults (R180, R181). The model's are: a flag byte above 1 refused (log 24), R at 0 without a fallback flow (log 12), an image
of the store taken as it was written (log 43), the order of the reply's fields (log 21), and 1 and 0 for a filter's
configuration written or not (log 44). -/
def Obligations.ConfigurationIsReadAndReplaced : Prop :=
  ∀ s : State, Ready s →
    (∀ b : Byte, 20 < b.toNat → exec (.configRead [b]) s = .next (refused s .configRead [b] .range 0)) ∧
    (∃ b : List Byte, exec (.configRead [0]) s = .next (granted (taken s .configRead [0]) .configRead b) ∧ b.length = 43 ∧
      (∀ x ∈ plantLayout s.plant, HasAt b x.1 x.2) ∧ HasAt b 41 (be16 s.cs.working.enables.toNat)) ∧
    (∀ f : FilterId,
      let c := s.cs.working.filters[f.val]
      exec (.configRead [filterByte f]) s = .next (granted (taken s .configRead [filterByte f]) .configRead
        ((match c.settings with
          | some x => settingsWire x
          | none => List.replicate 13 0xFF) ++ be16 c.watchMask.toNat ++ be16 c.tripMask.toNat ++
          be8 (if c.settings.isSome then 1 else 0)))) ∧
    (s.mc.mode = .setup →
      (∀ body : List Byte, body.length = 18 →
        (NoFilter (body.getD 0 0) ∨ ¬ SettingsOk body →
          exec (.filterConfig body) s = .next (refused s .filterConfig body .range 0)) ∧
        ∀ f : FilterId, u8 body 0 = f.val + 1 → SettingsOk body →
          exec (.filterConfig body) s = .next (granted { taken s .filterConfig body with
            cs := { s.cs with working := { s.cs.working with
              filters := s.cs.working.filters.set f.val
                ⟨some (wireSettings body), BitVec.ofNat 16 (u16 body 14), BitVec.ofNat 16 (u16 body 16)⟩ } } }
            .filterConfig [])) ∧
      (∀ body : List Byte, body.length = 41 →
        (¬ PlantOk body → exec (.plantConfig body) s = .next (refused s .plantConfig body .range 0)) ∧
        (PlantOk body → exec (.plantConfig body) s =
          .next (granted (reconfigured (taken s .plantConfig body) { s.cs.working with plant := wirePlant body })
            .plantConfig []))) ∧
      exec (.discard []) s = .next (granted (reconfigured (taken s .discard [])
        (match s.cs.store with | some w => w | none => WorkingConfig.defaults)) .discard []))

/-- TUNE is refused for no filter, for UNUSED, and for a value out of range, and otherwise replaces the seven tunable fields
together, in any other state of the filter; the masks are kept (R90). The model's are the order of its tests (log 26), the
refusal of a flag byte above 1 (log 24), the order of the reply's fields (log 21), and 1 and 0 for the validity (log 44). -/
def Obligations.TuneReplacesTheFields : Prop :=
  ∀ s : State, Ready s → (s.mc.mode = .hold ∨ s.mc.mode = .auto) → ∀ body : List Byte, body.length = 14 →
    (NoFilter (body.getD 0 0) → exec (.tune body) s = .next (refused s .tune body .range 0)) ∧
    ∀ f : FilterId, u8 body 0 = f.val + 1 →
      ((s.filter f).state = .unused → exec (.tune body) s = .next (refused s .tune body .state 0)) ∧
      ((s.filter f).state ≠ .unused → ¬ SettingsOk body → exec (.tune body) s = .next (refused s .tune body .range 0)) ∧
      ((s.filter f).state ≠ .unused → SettingsOk body → ∀ steps,
        s.cs.working.profiles[(wireSettings body).profile]? = some steps →
        exec (.tune body) s = .next (granted { taken s .tune body with
          cs := { s.cs with working := { s.cs.working with
            filters := s.cs.working.filters.set f.val
              { s.cs.working.filters[f.val] with settings := some (wireSettings body) } } } }
          .tune (settingsWire (wireSettings body) ++ validityWire steps)))

namespace Sys2Proof.Claim

/-- The part mode is changed. -/
def inMode (t : State) (m : PartMode) : State := { t with mc := { t.mc with mode := m } }

/-- A filter record when SETUP is left (R22): a filter newly configured is UNKNOWN with the values of R23, one that stays
configured goes to UNKNOWN with movement, held condition and fault removed, and one above F is UNUSED. The short-ripen and
rewash pending marks are kept (R119, R123; log 39). -/
def recounted (r : FilterRecord) (configured : Bool) : FilterRecord :=
  let renewed := fun st => { FilterRecord.reset st with shortRipen := r.shortRipen, rewashPending := r.rewashPending }
  if configured then
    if r.state = .unused then renewed .unknown
    else { r with
      state := .unknown, pending := none, held := none, fault := none, classifyDue := false, surveyAnswered := false }
  else renewed .unused

/-- The part leaves SETUP (R159, R22, R44, R49, R182, R185). -/
def leftSetup (t : State) : State :=
  let p := t.plant
  { t with
    mc := { t.mc with mode := .survey, surveyProgress := 0 }
    gbm := { t.gbm with
      links := t.gbm.links.map fun l => { l with lost := false, misses := 0 }
      filterNodes := t.gbm.filterNodes.map fun n => { n with owed := false, sent := none }
      washNode := { t.gbm.washNode with owed := false, sent := none }
      airNode := { t.gbm.airNode with owed := false, sent := none }
      settings := ⟨p.filterCount, p.scanPeriod, p.replyWindow, p.missLimit⟩
      cursor := if p.filterCount = 0 then none else some 0
      phase := .due (if p.filterCount = 0 then .washWater else .filter 0)
      periodExpired := false
      scanMissed := false }
    ft := { records := Vector.ofFn fun f => recounted (t.ft.records[f.val]) (decide (f.val < p.filterCount)) }
    te := { triggers := Vector.replicate 20 ⟨.armed, .armed, false, false⟩ }
    wq := { entries := [], changeNumber := t.wq.changeNumber + BitVec.ofNat 16 t.wq.entries.length }
    au := { t.au with breach := false }
    nu := { t.nu with
      tankWatch := { t.nu.tankWatch with answered := false }
      basinWatch := { t.nu.basinWatch with answered := false } } }

end Sys2Proof.Claim

/-- MODE moves the part between HOLD and AUTO, enters SETUP from HOLD with every context FREE, and leaves SETUP for a survey
with a valid working configuration; its refusals are those of R178, R166 and R182. The order of the reply's fields is the
model's (log 21). That leaving SETUP evaluates no floor on the filters' changes is the model's reading (log 17), and that the
marks of a filter taken to or from UNUSED are kept its choice between R119 and R123 on one side and R22 on the other
(log 39). -/
def Obligations.ModeIsDecided : Prop :=
  ∀ s : State, Ready s →
    let code : PartMode → Byte := fun
      | .survey => 0
      | .setup => 1
      | .hold => 2
      | .auto => 3
    let ask := fun (m : PartMode) => exec (.mode [code m]) s
    let answer := fun (m : PartMode) (t : State → State) (now : PartMode) =>
      .next (granted (t (taken s .mode [code m])) .mode [code now])
    let refuses := fun (m : PartMode) (r : Reason) (i : Nat) => .next (refused s .mode [code m] r i)
    (s.mc.mode ≠ .survey → ∀ b : Byte, 3 < b.toNat → exec (.mode [b]) s = .next (refused s .mode [b] .range 0)) ∧
    (s.mc.mode = .survey → ∀ m, ask m = refuses m .mode 0) ∧
    (s.mc.mode = .hold →
      ask .auto = answer .auto (inMode · .auto) .auto ∧ ask .hold = answer .hold id .hold ∧
      ask .survey = refuses .survey .state 0 ∧
      ((∀ c, s.ctx c = none) → ask .setup = answer .setup (inMode · .setup) .setup) ∧
      ((∃ c, s.ctx c ≠ none) → ask .setup = refuses .setup .state 0)) ∧
    (s.mc.mode = .auto →
      ask .hold = answer .hold (inMode · .hold) .hold ∧ ask .auto = answer .auto id .auto ∧
      ask .survey = refuses .survey .state 0 ∧ ask .setup = refuses .setup .state 0) ∧
    (s.mc.mode = .setup →
      (∀ m, m ≠ .hold → ask m = refuses m .mode 0) ∧
      (∀ i, failingItem s.cs.working = some i → ask .hold = refuses .hold .invalid i) ∧
      (failingItem s.cs.working = none → ask .hold = answer .hold leftSetup .survey))

/-! ### Requests on the plant -/

namespace Sys2Proof.Claim

/-- Requests that operate the plant are accepted (R166). -/
def Operable (s : State) : Prop := Ready s ∧ (s.mc.mode = .hold ∨ s.mc.mode = .auto)

/-- An ORPHAN context names a filter (R12). -/
def OrphanNamed (s : State) (f : FilterId) : Prop := ∃ c w, s.ctx c = some w ∧ w.filter = f ∧ w.state = .orphan

/-- The context in a slot is the first that names a filter. -/
def NamesFilter (s : State) (c : Slot) (w : WashContext) (f : FilterId) : Prop :=
  s.ctx c = some w ∧ w.filter = f ∧ ∀ d, d < c → ∀ v, s.ctx d = some v → v.filter ≠ f

/-- RELEASE is accepted for a filter (R6). -/
def MayRelease (s : State) (f : FilterId) : Prop :=
  (s.filter f).trip = none ∧
    ((s.filter f).state = .held ∨ ((s.filter f).state = .service ∧ (s.filter f).pending ≠ none) ∨
      ((s.filter f).state = .unknown ∧ ¬ OrphanNamed s f))

/-- ISOLATE is accepted for a filter (R7). -/
def MayIsolate (s : State) (f : FilterId) : Prop :=
  (s.filter f).state = .service ∨ ((s.filter f).state = .held ∧ (s.filter f).pending ≠ none) ∨
    (((s.filter f).state = .unknown ∨ (s.filter f).state = .fault) ∧ ¬ OrphanNamed s f)

/-- One filter record is changed. -/
def withRecord (t : State) (f : FilterId) (r : FilterRecord) : State :=
  { t with ft := { records := t.ft.records.set f.val r } }

/-- The class, cause set and entry time of an entry as bytes. -/
def entryWire (e : QueueEntry) : List Byte := be8 e.cls.code ++ be8 e.causes.bits ++ be32 e.entryTime.toNat

end Sys2Proof.Claim

/-- RELEASE and ISOLATE start a movement, or replace the one in travel, for the filters that R6 and R7 accept, and are
refused otherwise. That a started movement ends a classification that was due is the model's (log 33). -/
def Obligations.ReleaseAndIsolateStartMovements : Prop :=
  ∀ s : State, Operable s →
    (∀ b : Byte, NoFilter b →
      exec (.release [b]) s = .next (refused s .release [b] .range 0) ∧
      exec (.isolate [b]) s = .next (refused s .isolate [b] .range 0)) ∧
    ∀ f : FilterId,
      let b := [filterByte f]
      (MayRelease s f → exec (.release b) s = .next (granted (moved (taken s .release b) f true) .release [])) ∧
      (¬ MayRelease s f → exec (.release b) s = .next (refused s .release b .state 0)) ∧
      (MayIsolate s f → exec (.isolate b) s = .next (granted (moved (taken s .isolate b) f false) .isolate [])) ∧
      (¬ MayIsolate s f → exec (.isolate b) s = .next (refused s .isolate b .state 0))

/-- CLEAR removes a trip whose input is no longer active, a drift flag with its off counts, a held condition DIRTY, or a
unit's fault flag, and is refused where there is nothing to remove; it changes nothing else (R15, R16, R102). The forms of
the four CLEAR commands are the model's (log 29). -/
def Obligations.ClearRemovesMarks : Prop :=
  ∀ s : State, Operable s →
    (∀ b : Byte, NoFilter b →
      exec (.clearTrip [b]) s = .next (refused s .clear [0, b] .range 0) ∧
      exec (.clearDrift [b]) s = .next (refused s .clear [1, b] .range 0) ∧
      exec (.clearHeldCondition [b]) s = .next (refused s .clear [2, b] .range 0)) ∧
    (∀ f : FilterId,
      let r := s.filter f
      let b := [filterByte f]
      (r.trip = none → exec (.clearTrip b) s = .next (refused s .clear (0 :: b) .state 0)) ∧
      (∀ i x, r.trip = some i → (s.fnode f).input = some x → x.word.getLsbD i.val = true →
        exec (.clearTrip b) s = .next (refused s .clear (0 :: b) .state 0)) ∧
      (∀ i, r.trip = some i → (∀ x, (s.fnode f).input = some x → x.word.getLsbD i.val = false) →
        exec (.clearTrip b) s =
          .next (granted (withRecord (taken s .clear (0 :: b)) f { r with trip := none }) .clear [])) ∧
      (r.drift = false → exec (.clearDrift b) s = .next (refused s .clear (1 :: b) .state 0)) ∧
      (r.drift = true → exec (.clearDrift b) s =
        .next (granted (withRecord (taken s .clear (1 :: b)) f { r with
          drift := false, offCounts := PerValve.all false }) .clear [])) ∧
      (r.state ≠ .held ∨ r.held ≠ some .dirty →
        exec (.clearHeldCondition b) s = .next (refused s .clear (2 :: b) .state 0)) ∧
      (r.state = .held → r.held = some .dirty → exec (.clearHeldCondition b) s =
        .next (granted (withRecord (taken s .clear (2 :: b)) f { r with held := some .clean }) .clear []))) ∧
    ∀ code n : Byte,
      (6 < code.toNat → exec (.clearUnit [code, n]) s = .next (refused s .clear [code, n] .range 0)) ∧
      (3 ≤ code.toNat → code.toNat ≤ 6 →
        let u : UnitId := if code.toNat = 3 ∨ code.toNat = 5 then .a else .b
        let flags : UnitSet := if code.toNat ≤ 4 then s.ra.pumpFault else s.ra.blowerFault
        let cleared : UnitSet := match u with
          | .a => ⟨false, flags.b⟩
          | .b => ⟨flags.a, false⟩
        (n ≠ 0 → exec (.clearUnit [code, n]) s = .next (refused s .clear [code, n] .range 0)) ∧
        (n = 0 → flags.has u = false → exec (.clearUnit [code, n]) s = .next (refused s .clear [code, n] .state 0)) ∧
        (n = 0 → flags.has u = true → exec (.clearUnit [code, n]) s =
          .next (granted { taken s .clear [code, n] with
            ra := { s.ra with
              pumpFault := if code.toNat ≤ 4 then cleared else s.ra.pumpFault
              blowerFault := if code.toNat ≤ 4 then s.ra.blowerFault else cleared } } .clear [])))

/-- WASH gives a filter in SERVICE or HELD a request of class HOST, and CANCEL removes a filter's entry; they are refused
otherwise, and carry the entry, and WASH its position (R40). The order of the reply's fields is the model's (log 21). -/
def Obligations.HostQueuesAndCancels : Prop :=
  ∀ s : State, Operable s →
    (∀ b : Byte, NoFilter b →
      exec (.wash [b]) s = .next (refused s .wash [b] .range 0) ∧
      exec (.cancel [b]) s = .next (refused s .cancel [b] .range 0)) ∧
    ∀ f : FilterId,
      let b := [filterByte f]
      ((s.filter f).state ∉ [FilterState.service, .held] → exec (.wash b) s = .next (refused s .wash b .state 0)) ∧
      ((s.filter f).state ∈ [FilterState.service, .held] →
        let t := (taken s .wash b).request f .host
        ∃ e, t.wq.entries.find? (fun x => x.filter = f) = some e ∧ e.causes.host = true ∧
          exec (.wash b) s = .next (granted t .wash (entryWire e ++
            be8 (t.wq.entries.findIdx fun x => x.filter = f) ++ be16 t.wq.changeNumber.toNat))) ∧
      ((∀ e ∈ s.wq.entries, e.filter ≠ f) → exec (.cancel b) s = .next (refused s .cancel b .state 0)) ∧
      ∀ e, s.wq.entries.find? (fun x => x.filter = f) = some e →
        exec (.cancel b) s = .next (granted { taken s .cancel b with
          wq := { entries := s.wq.entries.filter fun x => x.filter != f, changeNumber := s.wq.changeNumber + 1 } }
          .cancel (entryWire e ++ be16 (s.wq.changeNumber + 1).toNat))

/-- EXIT decides an exit with cause HOST-EXIT for the filter's ACTIVE context, and carries slot, progress mark, exit kind
and pattern; it is refused STATE otherwise (R129). The order of the reply's fields is the model's (log 21). -/
def Obligations.HostExitIsDecided : Prop :=
  ∀ s : State, Operable s →
    (∀ b : Byte, NoFilter b → exec (.exit [b]) s = .next (refused s .exit [b] .range 0)) ∧
    ∀ f : FilterId,
      let b := [filterByte f]
      ((∀ c w, NamesFilter s c w f → w.state ≠ .active) → exec (.exit b) s = .next (refused s .exit b .state 0)) ∧
      ∀ c w, NamesFilter s c w f → w.state = .active →
        let k := exitBy w.progress (some .hostExit)
        exec (.exit b) s = .next (granted (exitFor (taken s .exit b) c w .hostExit none) .exit
          (be8 c.val ++ be8 w.progress.code ++ be8 k.code ++ be8 (exitPattern k).code))

/-- A step begins in ACQUIRE (R77). With every header held it enters SETTING on the same event; a header it lacks gives
SUPPLY-LOST while its node is LOST, a place at the tail of the wait list while it is full, and otherwise the header, with which
the context goes on asking (R78, R79, R94). A HELD holding is released when its inlet is seen CLOSED and the holder needs it no
more, its supply stopped (R97, R98); a header with room is granted onward to the head of its wait list, and again while it has
room and waiters (R95). That a new holding stands last in its header, and the rest close up, is the model's choice (log 45). -/
def Obligations.StepsBeginAndAskForHeaders : Prop :=
  (∀ (s : State) (c : Slot) (w : WashContext) (i : Nat), s.ctx c = some w →
    ((∀ h ∈ headersOf (kindAt w i), s.holds c h = true) → s.beginStep c i = settingFrom s c w i) ∧
    ∀ (held : List Header) (h : Header) (rest : List Header), headersOf (kindAt w i) = held ++ h :: rest →
      (∀ x ∈ held, s.holds c x = true) → s.holds c h = false →
      (FeedLost s h → w.state = .active →
        s.beginStep c i = exitFor (inSlot s c (begun s w i)) c (begun s w i) .supplyLost none) ∧
      (¬ FeedLost s h → h.capacity ≤ (s.header h).holdings.length →
        let e : HeaderEntry := { s.header h with waiting := (s.header h).waiting ++ [c] }
        s.beginStep c i = { inSlot s c (begun s w i) with
          ra := { s.ra with headers := match h with
            | .air => { s.ra.headers with air := e }
            | .wash => { s.ra.headers with wash := e }
            | .ftw => { s.ra.headers with ftw := e } } }) ∧
      (¬ FeedLost s h → (s.header h).holdings.length < h.capacity →
        s.beginStep c i = (grantedHeader s c h).beginStep c i)) ∧
  (∀ (s : State) (c : Slot) (w : WashContext), s.ctx c = some w →
    (∀ i, s.beginStep c i = (inSlot s c (begun s w i)).acquire c) ∧
    ((∀ h ∈ headersOf (kindAt w w.stepIndex), s.holds c h = true) → s.acquire c = enteredSetting s c w) ∧
    ∀ (held : List Header) (h : Header) (rest : List Header), headersOf (kindAt w w.stepIndex) = held ++ h :: rest →
      (∀ x ∈ held, s.holds c x = true) → s.holds c h = false →
      (FeedLost s h → s.acquire c = exitIfActive s c .supplyLost none) ∧
      (¬ FeedLost s h → h.capacity ≤ (s.header h).holdings.length → s.acquire c = waitingFor s c h) ∧
      (¬ FeedLost s h → (s.header h).holdings.length < h.capacity → s.acquire c = (grantedHeader s c h).acquire c)) ∧
  (∀ (s : State) (h : Header),
    s.grantFreed h = s.grantOnward h h.capacity ∧
    (∀ n, h.capacity ≤ (s.header h).holdings.length ∨ (s.header h).waiting = [] → s.grantOnward h n = s) ∧
    (∀ n c rest, (s.header h).holdings.length < h.capacity → (s.header h).waiting = c :: rest →
      s.grantOnward h (n + 1) = ((grantedHeader s c h).acquire c).grantOnward h n) ∧
    (h.capacity ≤ ((s.grantFreed h).header h).holdings.length ∨ ((s.grantFreed h).header h).waiting = [])) ∧
  ∀ (s : State) (c : Slot) (h : Header) (w : WashContext), s.ctx c = some w →
    let releasable := (∃ x ∈ (s.header h).holdings, x.slot = c ∧ x.orphan = false) ∧
      (s.filter w.filter).view.get (inletOf h) = .closed ∧
      (w.state = .exiting ∨ (w.state = .active ∧ h ∉ headersOf (kindAt w w.stepIndex)))
    (releasable → s.releaseHolding c h = (headerLeft s c w h).grantFreed h) ∧
    (¬ releasable → s.releaseHolding c h = s)

/-- CONTINUE begins the next step of the filter's context in HOLDPOINT, and carries slot, index, kind and phase; it is
refused STATE otherwise (R84). The order of the reply's fields is the model's (log 21). -/
def Obligations.ContinueBeginsTheNextStep : Prop :=
  ∀ s : State, Operable s →
    (∀ b : Byte, NoFilter b → exec (.continueWash [b]) s = .next (refused s .continueWash [b] .range 0)) ∧
    ∀ f : FilterId,
      let b := [filterByte f]
      ((∀ c w, NamesFilter s c w f → ¬ (w.state = .active ∧ w.phase = .holdpoint)) →
        exec (.continueWash b) s = .next (refused s .continueWash b .state 0)) ∧
      ∀ c w, NamesFilter s c w f → w.state = .active → w.phase = .holdpoint →
        let t := (taken s .continueWash b).beginStep c (w.stepIndex + 1)
        ∃ v, t.ctx c = some v ∧ exec (.continueWash b) s = .next (granted t .continueWash
          (be8 c.val ++ be8 (w.stepIndex + 1) ++ be8 (kindCode (kindAt w (w.stepIndex + 1))) ++ be8 v.phase.code))

/-- FREE forces an ORPHAN context to FREE: its holdings and commitments go, no record is written, and a filter in UNKNOWN on
an answering node is classified by its next answer; it is refused otherwise, and carries what was released (R112, R111,
R12). The order of the reply's fields (log 21) and of a header's holdings (log 45) is the model's. -/
def Obligations.FreeReleasesAnOrphan : Prop :=
  ∀ s : State, Operable s →
    (∀ b : Byte, 3 < b.toNat → exec (.free [b]) s = .next (refused s .free [b] .range 0)) ∧
    ∀ c : Slot,
      let b := [slotByte c]
      ((∀ w, s.ctx c = some w → w.state ≠ .orphan) → exec (.free b) s = .next (refused s .free b .state 0)) ∧
      ∀ w, s.ctx c = some w → w.state = .orphan →
        let body := be8 c.val ++ be8 (w.filter.val + 1) ++
          be8 ((if s.holds c .air then 1 else 0) + (if s.holds c .wash then 2 else 0) + if s.holds c .ftw then 4 else 0) ++
          be16 w.tankRemaining.toNat ++ be16 w.basinRemaining.toNat
        (∃ t, exec (.free b) s = .next (granted t .free body) ∧ t.ctx c = none ∧
          (∀ h, t.holds c h = false ∧ c ∉ (t.header h).waiting) ∧
          t.ra.tankTotal = s.ra.tankTotal - w.tankRemaining ∧ t.ra.basinTotal = s.ra.basinTotal - w.basinRemaining ∧
          t.wr = s.wr ∧ t.nu = s.nu ∧ t.wq = s.wq) ∧
        ((∀ h, (s.header h).waiting = []) → exec (.free b) s = .next (granted { taken s .free b with
          ss := { contexts := s.ss.contexts.set c.val none }
          ra := { s.ra with
            headers :=
              ⟨⟨s.ra.headers.air.holdings.filter fun x => x.slot != c, []⟩,
                ⟨s.ra.headers.wash.holdings.filter fun x => x.slot != c, []⟩,
                ⟨s.ra.headers.ftw.holdings.filter fun x => x.slot != c, []⟩⟩
            tankTotal := s.ra.tankTotal - w.tankRemaining
            basinTotal := s.ra.basinTotal - w.basinRemaining }
          ft := { records := s.ft.records.set w.filter.val { s.filter w.filter with
            classifyDue := (s.filter w.filter).classifyDue ||
              (decide ((s.filter w.filter).state = .unknown) && !(s.link (.filter w.filter)).lost) } } } .free body))

namespace Sys2Proof.Claim

/-- The filter may be started (R59, test 2). -/
def Startable (s : State) (f : FilterId) : Prop :=
  ((s.filter f).state = .service ∨ (s.filter f).state = .held) ∧ (s.filter f).trip = none ∧ (s.filter f).drift = false ∧
    (s.link (.filter f)).lost = false

/-- The slot gate (R53). -/
def SlotGate (s : State) : Prop :=
  (∃ c, s.ctx c = none) ∧ ((List.finRange 4).filter fun c => (s.ctx c).isSome).length < s.plant.maxOut

/-- The floor gate (R52). -/
def FloorGate (s : State) : Prop := s.au.breach = false ∧ s.au.required + leavingCount s + 1 ≤ inServiceCount s

/-- The supply gate (R53). -/
def SupplyGate (s : State) : Prop := (s.link .washWater).lost = false ∧ (s.link .waste).lost = false

/-- The volume test of a profile (R55). -/
def VolumeTest (s : State) (steps : List ProfileStep) : Prop :=
  ∃ tr br, s.plant.tankReserve = some tr ∧ s.plant.basinReserve = some br ∧
    tankNow s - s.ra.tankTotal ≥ (((steps.map plannedWater).sum + tr : Nat) : Int) ∧
    basinNow s - s.ra.basinTotal ≥ (((steps.map (plannedWaste s.plant.ftwRate)).sum + br : Nat) : Int)

/-- Both reserves have a value, as validation asks of them (R182). -/
def HasReserves (s : State) : Prop := s.plant.tankReserve ≠ none ∧ s.plant.basinReserve ≠ none

/-- The copy of a profile that a context takes: its planned volumes, the index of its last water step (0 without one) and
the demands (R89, R73). -/
def CopyOf (copy : ProfileCopy) (number rate : Nat) (steps : List ProfileStep) : Prop :=
  copy.number = number ∧ copy.steps = (steps.map fun p => ⟨p, plannedWater p, plannedWaste rate p⟩) ∧
    copy.waterDemand = (steps.map plannedWater).sum ∧ copy.wasteDemand = (steps.map (plannedWaste rate)).sum ∧
    ((∃ p, steps[copy.lastWater]? = some p ∧ IsWater p) ∨ (copy.lastWater = 0 ∧ ∀ p ∈ steps, ¬ IsWater p)) ∧
    ∀ i p, copy.lastWater < i → steps[i]? = some p → ¬ IsWater p

/-- The context that an admission leaves in SETTING of its DRAIN step (R56, R73, R119). -/
def admitted (s : State) (f : FilterId) (copy : ProfileCopy) : WashContext :=
  let e := s.wq.entries.find? fun x => x.filter = f
  { state := .active, filter := f, profile := copy
    cls := (e.map fun x => x.cls).getD .host
    causes := (e.map fun x => x.causes).getD ⟨false, false, false, true, false, false⟩
    entryTime := (e.map fun x => x.entryTime).getD s.now
    admissionTime := s.now, stepIndex := 0, phase := .setting, stepStart := s.now, phaseStart := s.now, progress := .none
    tankRemaining := copy.waterDemand, basinRemaining := copy.wasteDemand, offCounts := PerValve.all false
    reduced := false, secondAttempt := (s.filter f).rewashPending, exitKind := none, cause := none, secondCause := none
    causeValve := none, airSupply := .stopped, washSupply := .stopped, setpoint := 0, windowStart := none
    fallbackUsed := false, lowFlowStart := none, sustainStart := none, ripenResult := .none, exitStart := none
    answered := false, stepItems := none, valveItems := none }

end Sys2Proof.Claim

/-- START is refused MODE outside HOLD; in HOLD it makes the tests of R59 in order, and the first that fails gives the
refusal. -/
def Obligations.StartTestsInOrder : Prop :=
  ∀ s : State, Ready s →
    (s.mc.mode ≠ .hold → ∀ b : Byte, exec (.start [b]) s = .next (refused s .start [b] .mode 0)) ∧
    (s.mc.mode = .hold → ∀ b : Byte, NoFilter b → exec (.start [b]) s = .next (refused s .start [b] .range 0)) ∧
    (s.mc.mode = .hold → ∀ f : FilterId,
      let stops := fun (r : Reason) (i : Nat) => exec (.start [filterByte f]) s = .next (refused s .start [filterByte f] r i)
      (¬ Startable s f → stops .state 0) ∧
      ∀ x steps, Startable s f → (s.cs.working.filters[f.val]).settings = some x →
        s.cs.working.profiles[x.profile]? = some steps →
        (∀ i, failingIndex steps = some i → stops .invalid i) ∧
        (failingIndex steps = none → ¬ SlotGate s → stops .slots 0) ∧
        (failingIndex steps = none → SlotGate s → ¬ FloorGate s → stops .floor 0) ∧
        (failingIndex steps = none → SlotGate s → FloorGate s → ¬ SupplyGate s → stops .supply 0) ∧
        (failingIndex steps = none → SlotGate s → FloorGate s → SupplyGate s → HasReserves s → ¬ VolumeTest s steps →
          stops .volume 0))

/-- A START that passes its tests admits the filter into the lowest-numbered FREE context by R56, whose DRAIN step enters
SETTING at once, and carries slot, class, causes, admission time and demands (R60). The order of the reply's fields is the
model's (log 21). -/
def Obligations.StartAdmitsTheFilter : Prop :=
  ∀ (s : State) (f : FilterId) (x : FilterSettings) (steps : List ProfileStep) (c : Slot),
    Ready s → s.mc.mode = .hold → Startable s f → (s.cs.working.filters[f.val]).settings = some x →
    s.cs.working.profiles[x.profile]? = some steps → failingIndex steps = none → SlotGate s → FloorGate s → SupplyGate s →
    VolumeTest s steps → s.ctx c = none → (∀ d, d < c → s.ctx d ≠ none) →
    ∃ (t : State) (copy : ProfileCopy), CopyOf copy x.profile s.plant.ftwRate steps ∧
      let w := admitted s f copy
      exec (.start [filterByte f]) s = .next (granted t .start (be8 c.val ++ be8 w.cls.code ++ be8 w.causes.bits ++
        be32 s.mc.seconds.toNat ++ be16 copy.waterDemand ++ be16 copy.wasteDemand)) ∧
      t.ss.contexts = s.ss.contexts.set c.val (some w) ∧
      t.ft.records = s.ft.records.set f.val { s.filter f with
        state := .wash, held := none, pending := none, offCounts := PerValve.all false, rewashPending := false
        commanded := some .drain } ∧
      t.gbm = { s.gbm with
        filterNodes := s.gbm.filterNodes.set f.val { s.fnode f with image := Pattern.drain.image, owed := true } } ∧
      t.wq.entries = (s.wq.entries.filter fun e => e.filter != f) ∧
      t.ra = { s.ra with tankTotal := s.ra.tankTotal + copy.waterDemand, basinTotal := s.ra.basinTotal + copy.wasteDemand } ∧
      t.au.lastAdmission = some s.mc.seconds ∧ t.au.lastCheck = .admitted f ∧ t.au.required = s.au.required ∧
      t.au.shed = s.au.shed ∧
      ((s.filter f).state = .service → t.te.triggers = s.te.triggers.set f.val ⟨.armed, .armed, false, false⟩) ∧
      ((s.filter f).state = .held → t.te = s.te) ∧
      (s.cs.working.enables.getLsbD 0 = true →
        (t.nu.accounts[0]).pending = true ∧ (t.nu.accounts[0]).lastFilter = f.val + 1) ∧
      t.wr = s.wr ∧ t.cs = s.cs ∧ t.mc = s.mc

namespace Sys2Proof.Claim

/-- The spacing gate (R53). -/
def SpacingGate (s : State) : Prop :=
  ∀ t, s.au.lastAdmission = some t → s.plant.rotationSpacing ≤ (s.mc.seconds - t).toNat

/-- The profile a filter's configuration names. -/
def Names (s : State) (f : FilterId) (n : Nat) (steps : List ProfileStep) : Prop :=
  ∃ x, (s.cs.working.filters[f.val]).settings = some x ∧ x.profile = n ∧ s.cs.working.profiles[n]? = some steps

/-- The walk passes a filter's entry over, for the first reason that holds (R54). -/
def PassedOver (s : State) (f : FilterId) : PassOver → Prop
  | .state => (s.filter f).state ≠ .service ∧ (s.filter f).state ≠ .held
  | .trip => ((s.filter f).state = .service ∨ (s.filter f).state = .held) ∧ (s.filter f).trip ≠ none
  | .drift => ((s.filter f).state = .service ∨ (s.filter f).state = .held) ∧ (s.filter f).trip = none ∧
      (s.filter f).drift = true
  | .node => ((s.filter f).state = .service ∨ (s.filter f).state = .held) ∧ (s.filter f).trip = none ∧
      (s.filter f).drift = false ∧ (s.link (.filter f)).lost = true
  | .profile => Startable s f ∧ ∃ n steps, Names s f n steps ∧ failingIndex steps ≠ none
  | .volume => Startable s f ∧ HasReserves s ∧
      ∃ n steps, Names s f n steps ∧ failingIndex steps = none ∧ ¬ VolumeTest s steps

end Sys2Proof.Claim

/-- The admission check tests the gates in the order FLOOR, SLOTS, SPACING, SUPPLY, and then admits the first entry of the
queue that is not passed over; the last check result says how it ended (R51, R52, R53, R54, R58). -/
def Obligations.AdmissionCheckTestsGatesAndWalks : Prop :=
  ∀ s : State,
    let ends := fun r : CheckResult => s.admissionCheck = { s with au := { s.au with lastCheck := r } }
    (¬ FloorGate s → ends .floor) ∧
    (FloorGate s → ¬ SlotGate s → ends .slots) ∧
    (FloorGate s → SlotGate s → ¬ SpacingGate s → ends .spacing) ∧
    (FloorGate s → SlotGate s → SpacingGate s → ¬ SupplyGate s → ends .supply) ∧
    (FloorGate s → SlotGate s → SpacingGate s → SupplyGate s →
      (s.wq.entries = [] → ends .empty) ∧
      (∀ e rest r, s.wq.entries = e :: rest → PassedOver s e.filter r →
        (∀ x ∈ rest, ∃ q, PassedOver s x.filter q) → ends (.noneEligible e.filter r)) ∧
      ∀ ahead e rest n steps c, s.wq.entries = ahead ++ e :: rest → (∀ x ∈ ahead, ∃ q, PassedOver s x.filter q) →
        Startable s e.filter → Names s e.filter n steps → failingIndex steps = none → VolumeTest s steps →
        s.ctx c = none → (∀ d, d < c → s.ctx d ≠ none) → s.admissionCheck = s.admitFilter e.filter c n steps)

/-! ### The blocks that act on answers -/

namespace Sys2Proof.Claim

/-- A cause is in a cause set. -/
def hasCause (c : CauseSet) : WashCause → Bool
  | .turbidity => c.turbidity
  | .rewash => c.rewash
  | .headloss => c.headloss
  | .host => c.host
  | .runtime => c.runtime
  | .volume => c.volume

/-- The class of a cause (R29, R31). -/
def classOf : WashCause → WashClass
  | .turbidity => .breakthrough
  | .rewash => .rewash
  | .headloss => .headloss
  | .host => .host
  | .runtime => .scheduled
  | .volume => .scheduled

/-- A class ranks higher than another (R31). -/
def Outranks (a b : WashClass) : Prop := a.code < b.code

/-- The valves of a view are confirmed in a pattern: every valve it opens is seen OPEN, every other CLOSED (R2). -/
def Confirmed (p : Pattern) (view : PerValve ValveView) : Prop :=
  ∀ v : Valve, view.get v = if p.opens v then .opened else .closed

/-- A valve is off its position in a pattern (R13). -/
def Off (p : Pattern) (view : PerValve ValveView) (v : Valve) : Prop :=
  view.get v ≠ if p.opens v then .opened else .closed

end Sys2Proof.Claim

/-- A request for a filter without an entry inserts one, and for a filter with one upgrades it: the cause joins the set, a
higher class is taken, the entry time is kept; other entries keep their fields, the order of R33 is kept, and the change
number advances unless nothing changes. A filter in neither SERVICE nor HELD gets none (R34, R35, R39). -/
def Obligations.RequestsInsertOrUpgrade : Prop :=
  ∀ (s : State) (f : FilterId) (cause : WashCause),
    (QueueLaw s → QueueLaw (s.request f cause)) ∧
    ((s.filter f).state ≠ .service → (s.filter f).state ≠ .held → s.request f cause = s) ∧
    ((s.filter f).state = .service ∨ (s.filter f).state = .held →
      ((∀ e ∈ s.wq.entries, e.filter ≠ f) → ∃ (q : List QueueEntry) (e : QueueEntry),
        s.request f cause = { s with wq := { entries := q, changeNumber := s.wq.changeNumber + 1 } } ∧
        (∀ x, x ∈ q ↔ x = e ∨ x ∈ s.wq.entries) ∧
        e.filter = f ∧ e.cls = classOf cause ∧ e.entryTime = s.mc.seconds ∧
        ∀ k, hasCause e.causes k = decide (k = cause)) ∧
      ∀ e, s.wq.entries.find? (fun x => x.filter = f) = some e →
        (hasCause e.causes cause = true → ¬ Outranks (classOf cause) e.cls → s.request f cause = s) ∧
        (hasCause e.causes cause = false ∨ Outranks (classOf cause) e.cls → ∃ (q : List QueueEntry) (n : QueueEntry),
          s.request f cause = { s with wq := { entries := q, changeNumber := s.wq.changeNumber + 1 } } ∧
          (∀ x, x ∈ q ↔ x = n ∨ (x ∈ s.wq.entries ∧ x.filter ≠ f)) ∧
          n.filter = f ∧ n.entryTime = e.entryTime ∧
          (Outranks (classOf cause) e.cls → n.cls = classOf cause) ∧ (¬ Outranks (classOf cause) e.cls → n.cls = e.cls) ∧
          ∀ k, hasCause n.causes k = (hasCause e.causes k || decide (k = cause))))

/-- An occurrence of an enabled kind sets pending, counts to 255 and keeps the filter; one of a disabled kind changes
nothing (R171). The floor is evaluated outside SURVEY with F not 0, and FLOOR raised on a change (R49). A change of a
filter's state arms the triggers of a filter that leaves SERVICE, discards the entry of one that enters UNKNOWN, FAULT,
LOCAL or UNUSED, and evaluates the floor (R26, R36). -/
def Obligations.NoticesFloorAndStateChanges : Prop :=
  ∀ s : State,
    (∀ (k : NoticeKind) (n : Nat),
      (s.cs.working.enables.getLsbD k.index.val = false → s.raise k n = s) ∧
      (s.cs.working.enables.getLsbD k.index.val = true →
        let a := s.nu.accounts[k.index.val]
        s.raise k n = { s with nu := { s.nu with
          accounts := s.nu.accounts.set k.index.val ⟨true, if a.count < 255 then a.count + 1 else 255, n⟩
          attnDriven := !s.nu.attnGap } })) ∧
    (s.mc.mode = .survey ∨ s.gbm.settings.filterCount = 0 → s.evalFloor = s) ∧
    (s.mc.mode ≠ .survey → s.gbm.settings.filterCount ≠ 0 →
      let breach := decide (inServiceCount s < s.au.required)
      (breach = s.au.breach → s.evalFloor = s) ∧
      (breach ≠ s.au.breach →
        s.evalFloor = { s with au := { s.au with breach := breach } }.raise .floor 0)) ∧
    ∀ (f : FilterId) (st : FilterState),
      ((s.filter f).state = st → s.changeState f st = s) ∧
      ((s.filter f).state ≠ st → s.changeState f st = State.evalFloor { s with
        ft := { records := s.ft.records.set f.val { s.filter f with state := st } }
        te := if (s.filter f).state = .service then
            { triggers := s.te.triggers.set f.val ⟨.armed, .armed, false, false⟩ }
          else s.te
        wq := if st ∈ [FilterState.unknown, .fault, .localCtl, .unused] ∧ ∃ e ∈ s.wq.entries, e.filter = f then
            { entries := s.wq.entries.filter fun e => e.filter != f, changeNumber := s.wq.changeNumber + 1 }
          else s.wq })

namespace Sys2Proof.Claim

/-- A trigger with a confirmation time after an evaluation (R27). -/
def confirmNext (now : Seconds) (limit : Nat) (holds : Bool) : ConfirmState → ConfirmState
  | .armed => if holds then .confirming now else .armed
  | .confirming start =>
    if holds then if limit ≤ (now - start).toNat then .fired else .confirming start else .armed
  | .fired => if holds then .fired else .armed

/-- The condition of a trigger with a confirmation time is met on an evaluation (R27). -/
def confirmMet (now : Seconds) (limit : Nat) (holds : Bool) : ConfirmState → Bool
  | .confirming start => holds && decide (limit ≤ (now - start).toNat)
  | .armed | .fired => false

/-- The exit of the EXITING context `w` is converted to SAFE-EXIT by a trip: its movement starts again toward ISOLATED, and its
slot leaves the shed list (R134, R139, R63; log 19 for the valves captured). -/
def convertedExit (s : State) (c : Slot) (w : WashContext) : State :=
  { s with
    ss := { contexts := s.ss.contexts.set c.val (some { w with
      exitKind := some .safeExit
      cause := if w.cause = none then some .trip else w.cause
      secondCause := if w.cause = none then w.secondCause else some .trip
      valveItems :=
        some ⟨(s.fnode w.filter).image, (s.filter w.filter).view, ⟨s.holds c .air, s.holds c .wash, s.holds c .ftw⟩⟩
      exitStart := some s.now
      answered := false }) }
    ft := { records := s.ft.records.set w.filter.val { s.filter w.filter with commanded := some .isolated } }
    gbm := { s.gbm with
      filterNodes := s.gbm.filterNodes.set w.filter.val
        { s.fnode w.filter with image := Pattern.isolated.image, owed := true } }
    au := { s.au with shed := s.au.shed.filter fun x => x != c } }

/-- A filter's turbidity is at or below its return limit (R115). One whose configuration is unwritten has no limit (log 10). -/
def turbidityReturns (s : State) (f : FilterId) : Bool :=
  match (s.filterConfig f).settings with
  | some x => decide ((s.filter f).turbidity.toNat ≤ x.returnLimit)
  | none => false

/-- The ripen watch on an input answer in TIMING of the RIPEN step `p`: the sustain of R115, and the good end at which it has run
its time (R116). -/
def ripenTested (s : State) (c : Slot) (w : WashContext) (p : PlannedStep) : State :=
  if turbidityReturns s w.filter then
    match w.sustainStart with
    | none => inSlot s c { w with sustainStart := some s.now }
    | some t =>
      if s.plant.ripenSustain ≤ (s.mc.seconds - t).toNat then stepEnded s c { w with ripenResult := .good } p
      else inSlot s c w
  else inSlot s c { w with sustainStart := none }

/-- The drift watch on an input answer in TIMING, and then the ripen watch of a RIPEN step (R81, R115). -/
def driftTested (s : State) (c : Slot) (w : WashContext) : State :=
  let pattern := patternOf (kindAt w w.stepIndex)
  let off := fun v : Valve =>
    decide ((s.filter w.filter).view.get v ≠ if pattern.opens v then ValveView.opened else ValveView.closed)
  let counted := { w with offCounts := PerValve.ofFn off }
  match ([.inf, .eff, .wst, .wwi, .air, .ftw] : List Valve).find? fun v => off v && w.offCounts.get v with
  | some v => exitFor (inSlot s c counted) c counted .valveDrift (some v)
  | none =>
    match w.planned? with
    | some p => if p.step.kind = .ripen then ripenTested s c counted p else inSlot s c counted
    | none => inSlot s c counted

/-- The SS on an input answer in TIMING: a DRAIN whose level is at or below its target ends, and a REFILL whose level is at or
above it (R82); otherwise the watches act (log 14). -/
def timingTested (s : State) (c : Slot) (w : WashContext) : State :=
  let level := (s.filter w.filter).level.toNat
  match w.planned? with
  | some p =>
    if (p.step.kind = .drain ∧ level ≤ p.step.levelTarget) ∨ (p.step.kind = .refill ∧ p.step.levelTarget ≤ level) then
      stepEnded s c w p
    else driftTested s c w
  | none => driftTested s c w

end Sys2Proof.Claim

/-- On an input answer the FT completes a movement whose pattern is confirmed (R5, R16), counts valves off their position
and flags drift (R13), latches a trip and isolates a filter in service (R14), and classifies by survey-of-one (R11; log 16 with
the LOCAL switch active). The TE evaluates the four conditions of a filter in SERVICE, the turbidity and headloss ones on input
answers only, and gives a request for each that is met (R25, R27, R28, R29); what holds while the filter's configuration is
unwritten is free (log 10). -/
def Obligations.FilterTableActsOnAnswers : Prop :=
  ∀ (s : State) (f : FilterId),
    let r := s.filter f
    (∀ m, r.pending = some m →
      (m.toService = true → Confirmed .service r.view → s.movementAnswer f =
        (s.modFilter f fun r => { r with
          held := none
          commanded := some .service
          pending := none
          offCounts := PerValve.all false
          runSeconds := if r.held = some .clean then 0 else r.runSeconds
          totalClear := if r.held = some .clean then true else r.totalClear
          shortRipen := if r.held = some .clean then false else r.shortRipen }).changeState f .service) ∧
      (m.toService = false → Confirmed .isolated r.view → s.movementAnswer f =
        (s.modFilter f fun r => { r with
          held := some .dirty
          fault := none
          commanded := some .isolated
          pending := none
          offCounts := PerValve.all false }).changeState f .held) ∧
      (¬ Confirmed (if m.toService then .service else .isolated) r.view → s.movementAnswer f =
        s.modFilter f fun r => { r with pending := some { m with answered := true } })) ∧
    (r.pending = none → s.movementAnswer f = s) ∧
    (∀ p, r.state = .service → r.pending = none → r.commanded = some p →
      let t := s.watchDrift f
      (∀ v, (t.filter f).offCounts.get v = true ↔ Off p r.view v) ∧
      ((t.filter f).drift = true ↔ r.drift = true ∨ ∃ v, Off p r.view v ∧ r.offCounts.get v = true) ∧
      ((∃ v, Off p r.view v ∧ r.offCounts.get v = true) → r.drift = false →
        t = ((s.modFilter f fun x => { x with offCounts := (t.filter f).offCounts, drift := true }).raise .drift
          (f.val + 1))) ∧
      (r.drift = true ∨ (∀ v, Off p r.view v → r.offCounts.get v = false) →
        t = s.modFilter f fun x => { x with offCounts := (t.filter f).offCounts })) ∧
    (r.state ≠ .service ∨ r.pending ≠ none → s.watchDrift f = s) ∧
    (∀ word : BitVec 16,
      let mask := (s.filterConfig f).tripMask
      let gone := fun i : Fin 16 =>
        mask.getLsbD i.val = true ∧ r.previousWord.getLsbD i.val = false ∧ word.getLsbD i.val = true
      let kept := s.modFilter f fun x => { x with previousWord := word }
      (r.trip ≠ none ∨ (∀ i, ¬ gone i) → s.watchTrip f word = (kept, false)) ∧
      ∀ i, r.trip = none → gone i → (∀ j, gone j → j = i) →
        let latched := (kept.modFilter f fun x => { x with trip := some i }).raise .trip (f.val + 1)
        s.watchTrip f word =
          (if (r.state = .service ∧ r.pending = none) ∨ (∃ m, r.pending = some m ∧ m.toService = true) then
            latched.startMovement f false
          else latched, true)) ∧
    (∀ word : BitVec 16,
      let view := viewOfWord word
      let image : PerValve Bool := PerValve.ofFn fun v => decide (view.get v = .opened)
      let outcome : FilterState × Option HeldCondition × Option Pattern → State := fun o =>
        ((s.modFilter f fun x => { x with
          held := o.2.1, commanded := o.2.2, drift := false, offCounts := PerValve.all false
          classifyDue := false }).changeState f o.1).writeImage f image
      (Confirmed .service view → s.surveyOfOne f word false =
        if r.trip = none then outcome (.service, none, some .service)
        else (outcome (.service, none, some .service)).startMovement f false) ∧
      (Confirmed .isolated view → s.surveyOfOne f word false = outcome (.held, some .dirty, some .isolated)) ∧
      (¬ Confirmed .service view → ¬ Confirmed .isolated view →
        s.surveyOfOne f word false = outcome (.unknown, none, none)) ∧
      s.surveyOfOne f word true = (s.modFilter f fun x => { x with
        pending := none, held := none, fault := none, classifyDue := false }).changeState f .localCtl) ∧
    (r.state ≠ .service → ∀ isInput, s.evalTriggers f isInput = s) ∧
    (r.state = .service → ∀ isInput : Bool, ∃ (turbid resisting long large : Bool) (n : Nat),
      (∀ x, (s.filterConfig f).settings = some x → n = s.free ∧
        (turbid = true ↔ x.breakthroughLimit ≤ r.turbidity.toNat) ∧ (resisting = true ↔ x.headlossLimit ≤ r.headloss.toNat) ∧
        (long = true ↔ x.runLimit * 3600 ≤ r.runSeconds) ∧
        (large = true ↔ r.totalClear = false ∧ x.volumeLimit ≠ 0 ∧ x.volumeLimit ≤ r.filteredVolume)) ∧
      (r.totalClear = true → large = false) ∧
      let t := s.trig f
      let judgement : Triggers :=
        { turbidity := if isInput then confirmNext s.now s.plant.turbidityConfirm turbid t.turbidity else t.turbidity
          headloss := if isInput then confirmNext s.now s.plant.headlossConfirm resisting t.headloss else t.headloss
          runFired := long
          volumeFired := large }
      let judged := { s with
        free := n
        te := { triggers := s.te.triggers.set f.val judgement } }
      let ask := fun (u : State) (met : Bool) (cause : WashCause) => if met then u.request f cause else u
      s.evalTriggers f isInput =
        ask (ask (ask (ask judged (isInput && confirmMet s.now s.plant.turbidityConfirm turbid t.turbidity) .turbidity)
          (isInput && confirmMet s.now s.plant.headlossConfirm resisting t.headloss) .headloss)
          (long && !t.runFired) .runtime) (large && !t.volumeFired) .volume)

/-- On the answer that confirms its last pattern a wash ends: completion through RETURN (R87), or the end of an exit by its
kind (R131, R132, R133). The context is FREE with its commitments released, the filter is in the state the end gives it, and
the record stands newest in the list. On the answers before, the SS takes a confirmed SETTING to STARTING or TIMING (R79, R80,
R99), tests level, drift and ripening in TIMING (R82, R81, R115, R116), decides the exit of a trip (R85, R14), and converts an
exit by a trip (R134). The model's readings are the order of the tests of TIMING (log 14), the valves captured at a conversion
(log 19) and the answer of a trip not tested for ISOLATED (log 41); its choices the order of two starts (log 20) and a return
limit without a value, which is never met (log 10). -/
def Obligations.WashesEndOnConfirmation : Prop :=
  (∀ (s : State) (c : Slot), s.ctx c = none → ∀ tripped, s.sequencerAnswer c tripped = s) ∧
  (∀ (s : State) (c : Slot) (w : WashContext), s.ctx c = some w →
    let heard := { w with answered := true }
    let u := inSlot s c heard
    let view := (s.filter w.filter).view
    let k := kindAt w w.stepIndex
    (∀ tripped, w.state = .orphan → s.sequencerAnswer c tripped = u) ∧
    (w.state = .active →
      s.sequencerAnswer c true = exitFor u c heard .trip none ∧
      (w.phase ≠ .setting → w.phase ≠ .timing → s.sequencerAnswer c false = u) ∧
      (w.phase = .timing → s.sequencerAnswer c false = timingTested u c heard) ∧
      (w.phase = .setting → ¬ Confirmed (patternOf k) view → s.sequencerAnswer c false = u) ∧
      (w.phase = .setting → Confirmed (patternOf k) view →
        (k = some .air ∨ k = some .airwater ∨ k = some .water → s.sequencerAnswer c false = inStarting u c heard) ∧
        (k = some .drain ∨ k = some .settle ∨ k = some .refill ∨ k = some .ripen →
          s.sequencerAnswer c false = timingTested (inTiming u c heard) c (timed u heard)))) ∧
    (w.state = .exiting → w.exitKind = none → ∀ tripped, s.sequencerAnswer c tripped = u) ∧
    ∀ e, w.state = .exiting → w.exitKind = some e →
      (e ≠ .safeExit → s.sequencerAnswer c true = convertedExit u c heard) ∧
      (e = .safeExit → s.sequencerAnswer c true = s.sequencerAnswer c false) ∧
      (¬ Confirmed (exitPattern e) view → s.sequencerAnswer c false = u)) ∧
  ∀ (s : State) (c : Slot) (w : WashContext), s.ctx c = some w → (s.filter w.filter).state = .wash →
    (∀ e ∈ s.wq.entries, e.filter ≠ w.filter) →
    let f := w.filter
    let r := s.filter f
    let t := s.sequencerAnswer c false
    let released := t.ctx c = none ∧ (∀ d, d ≠ c → t.ctx d = s.ctx d) ∧ (∀ h, t.holds c h = false) ∧
      t.ra.tankTotal = s.ra.tankTotal - w.tankRemaining ∧ t.ra.basinTotal = s.ra.basinTotal - w.basinRemaining ∧
      (∀ g, g ≠ f → t.filter g = s.filter g) ∧ t.gbm = s.gbm ∧ c ∉ t.au.shed
    let wrote := fun (o : WashOutcome) (cause second : Option FaultCause) (x : Option Snapshot) =>
      t.wr = oneRecord s.wr (recordFor w s.now o cause second x)
    (w.state = .active → w.phase = .setting → kindAt w w.stepIndex = none → Confirmed .service r.view →
      let rewash := w.ripenResult = .unmet ∧ w.secondAttempt = false
      released ∧
      t.filter f = { r with
        state := .service, commanded := some .service, runSeconds := 0, totalClear := true, shortRipen := false
        rewashPending := if rewash then true else r.rewashPending } ∧
      wrote (if rewash then .rewash else if w.reduced then .completeReduced else .complete) w.cause w.secondCause none ∧
      (rewash → (∃ e ∈ t.wq.entries, e.filter = f ∧ e.cls = .rewash ∧ e.entryTime = s.mc.seconds)) ∧
      (¬ rewash → t.wq = s.wq)) ∧
    (w.state = .exiting → w.exitKind = some .returnExit → Confirmed .service r.view →
      released ∧
      t.filter f = { r with
        state := .service, commanded := some .service, rewashPending := w.secondAttempt || r.rewashPending } ∧
      wrote .returned w.cause w.secondCause none ∧ ⟨f, w.cls, w.causes, w.entryTime⟩ ∈ t.wq.entries ∧
      t.wq.changeNumber = s.wq.changeNumber + 1) ∧
    (w.state = .exiting → w.exitKind = some .safeExit → Confirmed .isolated r.view →
      released ∧
      t.filter f = { r with state := .held, held := some .dirty, commanded := some .isolated } ∧
      (w.cause = none → wrote .ineffective none w.secondCause none) ∧
      (w.cause ≠ none → ∀ x v, w.stepItems = some x → w.valveItems = some v →
        wrote .heldExit w.cause w.secondCause (some ⟨x, v⟩)) ∧ t.wq = s.wq) ∧
    (w.state = .exiting → w.exitKind = some .lateExit → Confirmed .service r.view →
      released ∧
      t.filter f = { r with state := .service, commanded := some .service, shortRipen := true } ∧
      wrote .shortRipen w.cause w.secondCause none ∧ t.wq = s.wq)

/-! ### Invariants -/

/-- Every step keeps R149: a node is LOST exactly when its consecutive misses equal the miss limit, which they never exceed.
Every step keeps R158: in SURVEY the poll that awaits its answer is a READ_IO. -/
def Obligations.NodesStayLawful : Prop :=
  (∀ s t : State, NodeLaw s → LimitLaw s → step s = .next t → NodeLaw t ∧ LimitLaw t) ∧
    ∀ s t : State, SurveyLaw s → step s = .next t → SurveyLaw t

/-- Every step keeps the laws of the notices and the record list: ATTN is driven exactly when a kind is pending and no gap
runs, no count passes 255, at most 32 records are held (R171, R174, R176). -/
def Obligations.NoticesAndRecordsStayLawful : Prop :=
  ∀ s t : State, AttnLaw s → CountLaw s → RecordLaw s → step s = .next t → AttnLaw t ∧ CountLaw t ∧ RecordLaw t

/-- Every step keeps the wash queue law and its order: entries stand by R33, no two for one filter, each for a filter in
SERVICE or HELD (R32, R33). -/
def Obligations.QueueStaysOrdered : Prop :=
  ∀ s t : State, QueueLaw s → EntryLaw s → step s = .next t → QueueLaw t ∧ EntryLaw t

/-- Every step keeps the commitment totals equal to the sums of the remaining commitments of the contexts (R106). -/
def Obligations.CommitmentsStayBalanced : Prop :=
  ∀ s t : State, CommitmentLaw s → step s = .next t → CommitmentLaw t

/-- Every step keeps the header table law (R92, R94). -/
def Obligations.HeadersStayLawful : Prop :=
  ∀ s t : State, HeaderTableLaw s → step s = .next t → HeaderTableLaw t

/-- Every step keeps the wash law and the orphan law: a filter is in WASH exactly when one ACTIVE or EXITING context names
it, and an ORPHAN context names a filter in UNKNOWN, FAULT or LOCAL (R74, R109). -/
def Obligations.WashesStayLawful : Prop :=
  ∀ s t : State, WashLaw s → OrphanLaw s → QuietLaw s → step s = .next t → WashLaw t ∧ OrphanLaw t ∧ QuietLaw t

/-- Every step keeps the slot law and the shed list law: the contexts that are not FREE never exceed MAX_OUT, and each slot
of the shed list is EXITING with another exit kind than SAFE-EXIT, once (R53, R63). -/
def Obligations.SlotsStayWithinLimit : Prop :=
  ∀ s t : State, SlotLaw s → ShedLaw s → step s = .next t → SlotLaw t ∧ ShedLaw t
end

