-- ==== Sys2Proof/Laws/State.lean ====
section
/-! SUPPORT. Reading the state after one named update: each update leaves every other block, and every reader of
another block, as it was; and what it writes is what is read back. -/

namespace Sys2Proof.Machine

/-! Tables -/

/-- `mapEach` is the library's map. -/
theorem mapEach_eq_map {α β : Type} {n : Nat} (g : α → β) (v : Vector α n) : mapEach g v = v.map g := by
  apply Vector.ext
  intro i h
  simp [mapEach]

@[simp] theorem mapEach_getElem {α β : Type} {n : Nat} (g : α → β) (v : Vector α n) (i : Nat) (h : i < n) :
    (mapEach g v)[i] = g v[i] := by simp [mapEach]

/-! `setFilter` -/

@[simp] theorem State.setFilter_pending (s : State) (f : FilterId) (r : FilterRecord) : (s.setFilter f r).pending = s.pending := rfl
@[simp] theorem State.setFilter_mc (s : State) (f : FilterId) (r : FilterRecord) : (s.setFilter f r).mc = s.mc := rfl
@[simp] theorem State.setFilter_hlu (s : State) (f : FilterId) (r : FilterRecord) : (s.setFilter f r).hlu = s.hlu := rfl
@[simp] theorem State.setFilter_cs (s : State) (f : FilterId) (r : FilterRecord) : (s.setFilter f r).cs = s.cs := rfl
@[simp] theorem State.setFilter_gbm (s : State) (f : FilterId) (r : FilterRecord) : (s.setFilter f r).gbm = s.gbm := rfl
@[simp] theorem State.setFilter_te (s : State) (f : FilterId) (r : FilterRecord) : (s.setFilter f r).te = s.te := rfl
@[simp] theorem State.setFilter_wq (s : State) (f : FilterId) (r : FilterRecord) : (s.setFilter f r).wq = s.wq := rfl
@[simp] theorem State.setFilter_au (s : State) (f : FilterId) (r : FilterRecord) : (s.setFilter f r).au = s.au := rfl
@[simp] theorem State.setFilter_ss (s : State) (f : FilterId) (r : FilterRecord) : (s.setFilter f r).ss = s.ss := rfl
@[simp] theorem State.setFilter_ra (s : State) (f : FilterId) (r : FilterRecord) : (s.setFilter f r).ra = s.ra := rfl
@[simp] theorem State.setFilter_nu (s : State) (f : FilterId) (r : FilterRecord) : (s.setFilter f r).nu = s.nu := rfl
@[simp] theorem State.setFilter_wr (s : State) (f : FilterId) (r : FilterRecord) : (s.setFilter f r).wr = s.wr := rfl
@[simp] theorem State.setFilter_free (s : State) (f : FilterId) (r : FilterRecord) : (s.setFilter f r).free = s.free := rfl
@[simp] theorem State.setFilter_trig (s : State) (f : FilterId) (r : FilterRecord) (g : FilterId) : (s.setFilter f r).trig g = s.trig g := rfl
@[simp] theorem State.setFilter_ctx (s : State) (f : FilterId) (r : FilterRecord) (d : Slot) : (s.setFilter f r).ctx d = s.ctx d := rfl
@[simp] theorem State.setFilter_link (s : State) (f : FilterId) (r : FilterRecord) (m : NodeId) : (s.setFilter f r).link m = s.link m := rfl
@[simp] theorem State.setFilter_fnode (s : State) (f : FilterId) (r : FilterRecord) (g : FilterId) : (s.setFilter f r).fnode g = s.fnode g := rfl
@[simp] theorem State.setFilter_header (s : State) (f : FilterId) (r : FilterRecord) (k : Header) : (s.setFilter f r).header k = s.header k := rfl
@[simp] theorem State.setFilter_now (s : State) (f : FilterId) (r : FilterRecord) : (s.setFilter f r).now = s.now := rfl
@[simp] theorem State.setFilter_plant (s : State) (f : FilterId) (r : FilterRecord) : (s.setFilter f r).plant = s.plant := rfl
@[simp] theorem State.setFilter_filterConfig (s : State) (f : FilterId) (r : FilterRecord) (g : FilterId) : (s.setFilter f r).filterConfig g = s.filterConfig g := rfl

/-! `setTrig` -/

@[simp] theorem State.setTrig_pending (s : State) (f : FilterId) (t : Triggers) : (s.setTrig f t).pending = s.pending := rfl
@[simp] theorem State.setTrig_mc (s : State) (f : FilterId) (t : Triggers) : (s.setTrig f t).mc = s.mc := rfl
@[simp] theorem State.setTrig_hlu (s : State) (f : FilterId) (t : Triggers) : (s.setTrig f t).hlu = s.hlu := rfl
@[simp] theorem State.setTrig_cs (s : State) (f : FilterId) (t : Triggers) : (s.setTrig f t).cs = s.cs := rfl
@[simp] theorem State.setTrig_gbm (s : State) (f : FilterId) (t : Triggers) : (s.setTrig f t).gbm = s.gbm := rfl
@[simp] theorem State.setTrig_ft (s : State) (f : FilterId) (t : Triggers) : (s.setTrig f t).ft = s.ft := rfl
@[simp] theorem State.setTrig_wq (s : State) (f : FilterId) (t : Triggers) : (s.setTrig f t).wq = s.wq := rfl
@[simp] theorem State.setTrig_au (s : State) (f : FilterId) (t : Triggers) : (s.setTrig f t).au = s.au := rfl
@[simp] theorem State.setTrig_ss (s : State) (f : FilterId) (t : Triggers) : (s.setTrig f t).ss = s.ss := rfl
@[simp] theorem State.setTrig_ra (s : State) (f : FilterId) (t : Triggers) : (s.setTrig f t).ra = s.ra := rfl
@[simp] theorem State.setTrig_nu (s : State) (f : FilterId) (t : Triggers) : (s.setTrig f t).nu = s.nu := rfl
@[simp] theorem State.setTrig_wr (s : State) (f : FilterId) (t : Triggers) : (s.setTrig f t).wr = s.wr := rfl
@[simp] theorem State.setTrig_free (s : State) (f : FilterId) (t : Triggers) : (s.setTrig f t).free = s.free := rfl
@[simp] theorem State.setTrig_filter (s : State) (f : FilterId) (t : Triggers) (g : FilterId) : (s.setTrig f t).filter g = s.filter g := rfl
@[simp] theorem State.setTrig_ctx (s : State) (f : FilterId) (t : Triggers) (d : Slot) : (s.setTrig f t).ctx d = s.ctx d := rfl
@[simp] theorem State.setTrig_link (s : State) (f : FilterId) (t : Triggers) (m : NodeId) : (s.setTrig f t).link m = s.link m := rfl
@[simp] theorem State.setTrig_fnode (s : State) (f : FilterId) (t : Triggers) (g : FilterId) : (s.setTrig f t).fnode g = s.fnode g := rfl
@[simp] theorem State.setTrig_header (s : State) (f : FilterId) (t : Triggers) (k : Header) : (s.setTrig f t).header k = s.header k := rfl
@[simp] theorem State.setTrig_now (s : State) (f : FilterId) (t : Triggers) : (s.setTrig f t).now = s.now := rfl
@[simp] theorem State.setTrig_plant (s : State) (f : FilterId) (t : Triggers) : (s.setTrig f t).plant = s.plant := rfl
@[simp] theorem State.setTrig_filterConfig (s : State) (f : FilterId) (t : Triggers) (g : FilterId) : (s.setTrig f t).filterConfig g = s.filterConfig g := rfl

/-! `setCtx` -/

@[simp] theorem State.setCtx_pending (s : State) (c : Slot) (w : Option WashContext) : (s.setCtx c w).pending = s.pending := rfl
@[simp] theorem State.setCtx_mc (s : State) (c : Slot) (w : Option WashContext) : (s.setCtx c w).mc = s.mc := rfl
@[simp] theorem State.setCtx_hlu (s : State) (c : Slot) (w : Option WashContext) : (s.setCtx c w).hlu = s.hlu := rfl
@[simp] theorem State.setCtx_cs (s : State) (c : Slot) (w : Option WashContext) : (s.setCtx c w).cs = s.cs := rfl
@[simp] theorem State.setCtx_gbm (s : State) (c : Slot) (w : Option WashContext) : (s.setCtx c w).gbm = s.gbm := rfl
@[simp] theorem State.setCtx_ft (s : State) (c : Slot) (w : Option WashContext) : (s.setCtx c w).ft = s.ft := rfl
@[simp] theorem State.setCtx_te (s : State) (c : Slot) (w : Option WashContext) : (s.setCtx c w).te = s.te := rfl
@[simp] theorem State.setCtx_wq (s : State) (c : Slot) (w : Option WashContext) : (s.setCtx c w).wq = s.wq := rfl
@[simp] theorem State.setCtx_au (s : State) (c : Slot) (w : Option WashContext) : (s.setCtx c w).au = s.au := rfl
@[simp] theorem State.setCtx_ra (s : State) (c : Slot) (w : Option WashContext) : (s.setCtx c w).ra = s.ra := rfl
@[simp] theorem State.setCtx_nu (s : State) (c : Slot) (w : Option WashContext) : (s.setCtx c w).nu = s.nu := rfl
@[simp] theorem State.setCtx_wr (s : State) (c : Slot) (w : Option WashContext) : (s.setCtx c w).wr = s.wr := rfl
@[simp] theorem State.setCtx_free (s : State) (c : Slot) (w : Option WashContext) : (s.setCtx c w).free = s.free := rfl
@[simp] theorem State.setCtx_filter (s : State) (c : Slot) (w : Option WashContext) (g : FilterId) : (s.setCtx c w).filter g = s.filter g := rfl
@[simp] theorem State.setCtx_trig (s : State) (c : Slot) (w : Option WashContext) (g : FilterId) : (s.setCtx c w).trig g = s.trig g := rfl
@[simp] theorem State.setCtx_link (s : State) (c : Slot) (w : Option WashContext) (m : NodeId) : (s.setCtx c w).link m = s.link m := rfl
@[simp] theorem State.setCtx_fnode (s : State) (c : Slot) (w : Option WashContext) (g : FilterId) : (s.setCtx c w).fnode g = s.fnode g := rfl
@[simp] theorem State.setCtx_header (s : State) (c : Slot) (w : Option WashContext) (k : Header) : (s.setCtx c w).header k = s.header k := rfl
@[simp] theorem State.setCtx_now (s : State) (c : Slot) (w : Option WashContext) : (s.setCtx c w).now = s.now := rfl
@[simp] theorem State.setCtx_plant (s : State) (c : Slot) (w : Option WashContext) : (s.setCtx c w).plant = s.plant := rfl
@[simp] theorem State.setCtx_filterConfig (s : State) (c : Slot) (w : Option WashContext) (g : FilterId) : (s.setCtx c w).filterConfig g = s.filterConfig g := rfl

/-! `setLink` -/

@[simp] theorem State.setLink_pending (s : State) (n : NodeId) (l : NodeLink) : (s.setLink n l).pending = s.pending := rfl
@[simp] theorem State.setLink_mc (s : State) (n : NodeId) (l : NodeLink) : (s.setLink n l).mc = s.mc := rfl
@[simp] theorem State.setLink_hlu (s : State) (n : NodeId) (l : NodeLink) : (s.setLink n l).hlu = s.hlu := rfl
@[simp] theorem State.setLink_cs (s : State) (n : NodeId) (l : NodeLink) : (s.setLink n l).cs = s.cs := rfl
@[simp] theorem State.setLink_ft (s : State) (n : NodeId) (l : NodeLink) : (s.setLink n l).ft = s.ft := rfl
@[simp] theorem State.setLink_te (s : State) (n : NodeId) (l : NodeLink) : (s.setLink n l).te = s.te := rfl
@[simp] theorem State.setLink_wq (s : State) (n : NodeId) (l : NodeLink) : (s.setLink n l).wq = s.wq := rfl
@[simp] theorem State.setLink_au (s : State) (n : NodeId) (l : NodeLink) : (s.setLink n l).au = s.au := rfl
@[simp] theorem State.setLink_ss (s : State) (n : NodeId) (l : NodeLink) : (s.setLink n l).ss = s.ss := rfl
@[simp] theorem State.setLink_ra (s : State) (n : NodeId) (l : NodeLink) : (s.setLink n l).ra = s.ra := rfl
@[simp] theorem State.setLink_nu (s : State) (n : NodeId) (l : NodeLink) : (s.setLink n l).nu = s.nu := rfl
@[simp] theorem State.setLink_wr (s : State) (n : NodeId) (l : NodeLink) : (s.setLink n l).wr = s.wr := rfl
@[simp] theorem State.setLink_free (s : State) (n : NodeId) (l : NodeLink) : (s.setLink n l).free = s.free := rfl
@[simp] theorem State.setLink_filter (s : State) (n : NodeId) (l : NodeLink) (g : FilterId) : (s.setLink n l).filter g = s.filter g := rfl
@[simp] theorem State.setLink_trig (s : State) (n : NodeId) (l : NodeLink) (g : FilterId) : (s.setLink n l).trig g = s.trig g := rfl
@[simp] theorem State.setLink_ctx (s : State) (n : NodeId) (l : NodeLink) (d : Slot) : (s.setLink n l).ctx d = s.ctx d := rfl
@[simp] theorem State.setLink_fnode (s : State) (n : NodeId) (l : NodeLink) (g : FilterId) : (s.setLink n l).fnode g = s.fnode g := rfl
@[simp] theorem State.setLink_header (s : State) (n : NodeId) (l : NodeLink) (k : Header) : (s.setLink n l).header k = s.header k := rfl
@[simp] theorem State.setLink_now (s : State) (n : NodeId) (l : NodeLink) : (s.setLink n l).now = s.now := rfl
@[simp] theorem State.setLink_plant (s : State) (n : NodeId) (l : NodeLink) : (s.setLink n l).plant = s.plant := rfl
@[simp] theorem State.setLink_filterConfig (s : State) (n : NodeId) (l : NodeLink) (g : FilterId) : (s.setLink n l).filterConfig g = s.filterConfig g := rfl

/-! `setFnode` -/

@[simp] theorem State.setFnode_pending (s : State) (f : FilterId) (n : FilterNode) : (s.setFnode f n).pending = s.pending := rfl
@[simp] theorem State.setFnode_mc (s : State) (f : FilterId) (n : FilterNode) : (s.setFnode f n).mc = s.mc := rfl
@[simp] theorem State.setFnode_hlu (s : State) (f : FilterId) (n : FilterNode) : (s.setFnode f n).hlu = s.hlu := rfl
@[simp] theorem State.setFnode_cs (s : State) (f : FilterId) (n : FilterNode) : (s.setFnode f n).cs = s.cs := rfl
@[simp] theorem State.setFnode_ft (s : State) (f : FilterId) (n : FilterNode) : (s.setFnode f n).ft = s.ft := rfl
@[simp] theorem State.setFnode_te (s : State) (f : FilterId) (n : FilterNode) : (s.setFnode f n).te = s.te := rfl
@[simp] theorem State.setFnode_wq (s : State) (f : FilterId) (n : FilterNode) : (s.setFnode f n).wq = s.wq := rfl
@[simp] theorem State.setFnode_au (s : State) (f : FilterId) (n : FilterNode) : (s.setFnode f n).au = s.au := rfl
@[simp] theorem State.setFnode_ss (s : State) (f : FilterId) (n : FilterNode) : (s.setFnode f n).ss = s.ss := rfl
@[simp] theorem State.setFnode_ra (s : State) (f : FilterId) (n : FilterNode) : (s.setFnode f n).ra = s.ra := rfl
@[simp] theorem State.setFnode_nu (s : State) (f : FilterId) (n : FilterNode) : (s.setFnode f n).nu = s.nu := rfl
@[simp] theorem State.setFnode_wr (s : State) (f : FilterId) (n : FilterNode) : (s.setFnode f n).wr = s.wr := rfl
@[simp] theorem State.setFnode_free (s : State) (f : FilterId) (n : FilterNode) : (s.setFnode f n).free = s.free := rfl
@[simp] theorem State.setFnode_filter (s : State) (f : FilterId) (n : FilterNode) (g : FilterId) : (s.setFnode f n).filter g = s.filter g := rfl
@[simp] theorem State.setFnode_trig (s : State) (f : FilterId) (n : FilterNode) (g : FilterId) : (s.setFnode f n).trig g = s.trig g := rfl
@[simp] theorem State.setFnode_ctx (s : State) (f : FilterId) (n : FilterNode) (d : Slot) : (s.setFnode f n).ctx d = s.ctx d := rfl
@[simp] theorem State.setFnode_link (s : State) (f : FilterId) (n : FilterNode) (m : NodeId) : (s.setFnode f n).link m = s.link m := rfl
@[simp] theorem State.setFnode_header (s : State) (f : FilterId) (n : FilterNode) (k : Header) : (s.setFnode f n).header k = s.header k := rfl
@[simp] theorem State.setFnode_now (s : State) (f : FilterId) (n : FilterNode) : (s.setFnode f n).now = s.now := rfl
@[simp] theorem State.setFnode_plant (s : State) (f : FilterId) (n : FilterNode) : (s.setFnode f n).plant = s.plant := rfl
@[simp] theorem State.setFnode_filterConfig (s : State) (f : FilterId) (n : FilterNode) (g : FilterId) : (s.setFnode f n).filterConfig g = s.filterConfig g := rfl

/-! `writePumps` -/

@[simp] theorem State.writePumps_pending (s : State) (i : PumpImage) : (s.writePumps i).pending = s.pending := rfl
@[simp] theorem State.writePumps_mc (s : State) (i : PumpImage) : (s.writePumps i).mc = s.mc := rfl
@[simp] theorem State.writePumps_hlu (s : State) (i : PumpImage) : (s.writePumps i).hlu = s.hlu := rfl
@[simp] theorem State.writePumps_cs (s : State) (i : PumpImage) : (s.writePumps i).cs = s.cs := rfl
@[simp] theorem State.writePumps_ft (s : State) (i : PumpImage) : (s.writePumps i).ft = s.ft := rfl
@[simp] theorem State.writePumps_te (s : State) (i : PumpImage) : (s.writePumps i).te = s.te := rfl
@[simp] theorem State.writePumps_wq (s : State) (i : PumpImage) : (s.writePumps i).wq = s.wq := rfl
@[simp] theorem State.writePumps_au (s : State) (i : PumpImage) : (s.writePumps i).au = s.au := rfl
@[simp] theorem State.writePumps_ss (s : State) (i : PumpImage) : (s.writePumps i).ss = s.ss := rfl
@[simp] theorem State.writePumps_ra (s : State) (i : PumpImage) : (s.writePumps i).ra = s.ra := rfl
@[simp] theorem State.writePumps_nu (s : State) (i : PumpImage) : (s.writePumps i).nu = s.nu := rfl
@[simp] theorem State.writePumps_wr (s : State) (i : PumpImage) : (s.writePumps i).wr = s.wr := rfl
@[simp] theorem State.writePumps_free (s : State) (i : PumpImage) : (s.writePumps i).free = s.free := rfl
@[simp] theorem State.writePumps_filter (s : State) (i : PumpImage) (g : FilterId) : (s.writePumps i).filter g = s.filter g := rfl
@[simp] theorem State.writePumps_trig (s : State) (i : PumpImage) (g : FilterId) : (s.writePumps i).trig g = s.trig g := rfl
@[simp] theorem State.writePumps_ctx (s : State) (i : PumpImage) (d : Slot) : (s.writePumps i).ctx d = s.ctx d := rfl
@[simp] theorem State.writePumps_link (s : State) (i : PumpImage) (m : NodeId) : (s.writePumps i).link m = s.link m := rfl
@[simp] theorem State.writePumps_fnode (s : State) (i : PumpImage) (g : FilterId) : (s.writePumps i).fnode g = s.fnode g := rfl
@[simp] theorem State.writePumps_header (s : State) (i : PumpImage) (k : Header) : (s.writePumps i).header k = s.header k := rfl
@[simp] theorem State.writePumps_now (s : State) (i : PumpImage) : (s.writePumps i).now = s.now := rfl
@[simp] theorem State.writePumps_plant (s : State) (i : PumpImage) : (s.writePumps i).plant = s.plant := rfl
@[simp] theorem State.writePumps_filterConfig (s : State) (i : PumpImage) (g : FilterId) : (s.writePumps i).filterConfig g = s.filterConfig g := rfl

/-! `writeBlowers` -/

@[simp] theorem State.writeBlowers_pending (s : State) (i : BlowerImage) : (s.writeBlowers i).pending = s.pending := rfl
@[simp] theorem State.writeBlowers_mc (s : State) (i : BlowerImage) : (s.writeBlowers i).mc = s.mc := rfl
@[simp] theorem State.writeBlowers_hlu (s : State) (i : BlowerImage) : (s.writeBlowers i).hlu = s.hlu := rfl
@[simp] theorem State.writeBlowers_cs (s : State) (i : BlowerImage) : (s.writeBlowers i).cs = s.cs := rfl
@[simp] theorem State.writeBlowers_ft (s : State) (i : BlowerImage) : (s.writeBlowers i).ft = s.ft := rfl
@[simp] theorem State.writeBlowers_te (s : State) (i : BlowerImage) : (s.writeBlowers i).te = s.te := rfl
@[simp] theorem State.writeBlowers_wq (s : State) (i : BlowerImage) : (s.writeBlowers i).wq = s.wq := rfl
@[simp] theorem State.writeBlowers_au (s : State) (i : BlowerImage) : (s.writeBlowers i).au = s.au := rfl
@[simp] theorem State.writeBlowers_ss (s : State) (i : BlowerImage) : (s.writeBlowers i).ss = s.ss := rfl
@[simp] theorem State.writeBlowers_ra (s : State) (i : BlowerImage) : (s.writeBlowers i).ra = s.ra := rfl
@[simp] theorem State.writeBlowers_nu (s : State) (i : BlowerImage) : (s.writeBlowers i).nu = s.nu := rfl
@[simp] theorem State.writeBlowers_wr (s : State) (i : BlowerImage) : (s.writeBlowers i).wr = s.wr := rfl
@[simp] theorem State.writeBlowers_free (s : State) (i : BlowerImage) : (s.writeBlowers i).free = s.free := rfl
@[simp] theorem State.writeBlowers_filter (s : State) (i : BlowerImage) (g : FilterId) : (s.writeBlowers i).filter g = s.filter g := rfl
@[simp] theorem State.writeBlowers_trig (s : State) (i : BlowerImage) (g : FilterId) : (s.writeBlowers i).trig g = s.trig g := rfl
@[simp] theorem State.writeBlowers_ctx (s : State) (i : BlowerImage) (d : Slot) : (s.writeBlowers i).ctx d = s.ctx d := rfl
@[simp] theorem State.writeBlowers_link (s : State) (i : BlowerImage) (m : NodeId) : (s.writeBlowers i).link m = s.link m := rfl
@[simp] theorem State.writeBlowers_fnode (s : State) (i : BlowerImage) (g : FilterId) : (s.writeBlowers i).fnode g = s.fnode g := rfl
@[simp] theorem State.writeBlowers_header (s : State) (i : BlowerImage) (k : Header) : (s.writeBlowers i).header k = s.header k := rfl
@[simp] theorem State.writeBlowers_now (s : State) (i : BlowerImage) : (s.writeBlowers i).now = s.now := rfl
@[simp] theorem State.writeBlowers_plant (s : State) (i : BlowerImage) : (s.writeBlowers i).plant = s.plant := rfl
@[simp] theorem State.writeBlowers_filterConfig (s : State) (i : BlowerImage) (g : FilterId) : (s.writeBlowers i).filterConfig g = s.filterConfig g := rfl

/-! `setPhase` -/

@[simp] theorem State.setPhase_pending (s : State) (p : ScanPhase) : (s.setPhase p).pending = s.pending := rfl
@[simp] theorem State.setPhase_mc (s : State) (p : ScanPhase) : (s.setPhase p).mc = s.mc := rfl
@[simp] theorem State.setPhase_hlu (s : State) (p : ScanPhase) : (s.setPhase p).hlu = s.hlu := rfl
@[simp] theorem State.setPhase_cs (s : State) (p : ScanPhase) : (s.setPhase p).cs = s.cs := rfl
@[simp] theorem State.setPhase_ft (s : State) (p : ScanPhase) : (s.setPhase p).ft = s.ft := rfl
@[simp] theorem State.setPhase_te (s : State) (p : ScanPhase) : (s.setPhase p).te = s.te := rfl
@[simp] theorem State.setPhase_wq (s : State) (p : ScanPhase) : (s.setPhase p).wq = s.wq := rfl
@[simp] theorem State.setPhase_au (s : State) (p : ScanPhase) : (s.setPhase p).au = s.au := rfl
@[simp] theorem State.setPhase_ss (s : State) (p : ScanPhase) : (s.setPhase p).ss = s.ss := rfl
@[simp] theorem State.setPhase_ra (s : State) (p : ScanPhase) : (s.setPhase p).ra = s.ra := rfl
@[simp] theorem State.setPhase_nu (s : State) (p : ScanPhase) : (s.setPhase p).nu = s.nu := rfl
@[simp] theorem State.setPhase_wr (s : State) (p : ScanPhase) : (s.setPhase p).wr = s.wr := rfl
@[simp] theorem State.setPhase_free (s : State) (p : ScanPhase) : (s.setPhase p).free = s.free := rfl
@[simp] theorem State.setPhase_filter (s : State) (p : ScanPhase) (g : FilterId) : (s.setPhase p).filter g = s.filter g := rfl
@[simp] theorem State.setPhase_trig (s : State) (p : ScanPhase) (g : FilterId) : (s.setPhase p).trig g = s.trig g := rfl
@[simp] theorem State.setPhase_ctx (s : State) (p : ScanPhase) (d : Slot) : (s.setPhase p).ctx d = s.ctx d := rfl
@[simp] theorem State.setPhase_link (s : State) (p : ScanPhase) (m : NodeId) : (s.setPhase p).link m = s.link m := rfl
@[simp] theorem State.setPhase_fnode (s : State) (p : ScanPhase) (g : FilterId) : (s.setPhase p).fnode g = s.fnode g := rfl
@[simp] theorem State.setPhase_header (s : State) (p : ScanPhase) (k : Header) : (s.setPhase p).header k = s.header k := rfl
@[simp] theorem State.setPhase_now (s : State) (p : ScanPhase) : (s.setPhase p).now = s.now := rfl
@[simp] theorem State.setPhase_plant (s : State) (p : ScanPhase) : (s.setPhase p).plant = s.plant := rfl
@[simp] theorem State.setPhase_filterConfig (s : State) (p : ScanPhase) (g : FilterId) : (s.setPhase p).filterConfig g = s.filterConfig g := rfl

/-! `setHeader` -/

@[simp] theorem State.setHeader_pending (s : State) (h : Header) (e : HeaderEntry) : (s.setHeader h e).pending = s.pending := rfl
@[simp] theorem State.setHeader_mc (s : State) (h : Header) (e : HeaderEntry) : (s.setHeader h e).mc = s.mc := rfl
@[simp] theorem State.setHeader_hlu (s : State) (h : Header) (e : HeaderEntry) : (s.setHeader h e).hlu = s.hlu := rfl
@[simp] theorem State.setHeader_cs (s : State) (h : Header) (e : HeaderEntry) : (s.setHeader h e).cs = s.cs := rfl
@[simp] theorem State.setHeader_gbm (s : State) (h : Header) (e : HeaderEntry) : (s.setHeader h e).gbm = s.gbm := rfl
@[simp] theorem State.setHeader_ft (s : State) (h : Header) (e : HeaderEntry) : (s.setHeader h e).ft = s.ft := rfl
@[simp] theorem State.setHeader_te (s : State) (h : Header) (e : HeaderEntry) : (s.setHeader h e).te = s.te := rfl
@[simp] theorem State.setHeader_wq (s : State) (h : Header) (e : HeaderEntry) : (s.setHeader h e).wq = s.wq := rfl
@[simp] theorem State.setHeader_au (s : State) (h : Header) (e : HeaderEntry) : (s.setHeader h e).au = s.au := rfl
@[simp] theorem State.setHeader_ss (s : State) (h : Header) (e : HeaderEntry) : (s.setHeader h e).ss = s.ss := rfl
@[simp] theorem State.setHeader_nu (s : State) (h : Header) (e : HeaderEntry) : (s.setHeader h e).nu = s.nu := rfl
@[simp] theorem State.setHeader_wr (s : State) (h : Header) (e : HeaderEntry) : (s.setHeader h e).wr = s.wr := rfl
@[simp] theorem State.setHeader_free (s : State) (h : Header) (e : HeaderEntry) : (s.setHeader h e).free = s.free := rfl
@[simp] theorem State.setHeader_filter (s : State) (h : Header) (e : HeaderEntry) (g : FilterId) : (s.setHeader h e).filter g = s.filter g := rfl
@[simp] theorem State.setHeader_trig (s : State) (h : Header) (e : HeaderEntry) (g : FilterId) : (s.setHeader h e).trig g = s.trig g := rfl
@[simp] theorem State.setHeader_ctx (s : State) (h : Header) (e : HeaderEntry) (d : Slot) : (s.setHeader h e).ctx d = s.ctx d := rfl
@[simp] theorem State.setHeader_link (s : State) (h : Header) (e : HeaderEntry) (m : NodeId) : (s.setHeader h e).link m = s.link m := rfl
@[simp] theorem State.setHeader_fnode (s : State) (h : Header) (e : HeaderEntry) (g : FilterId) : (s.setHeader h e).fnode g = s.fnode g := rfl
@[simp] theorem State.setHeader_now (s : State) (h : Header) (e : HeaderEntry) : (s.setHeader h e).now = s.now := rfl
@[simp] theorem State.setHeader_plant (s : State) (h : Header) (e : HeaderEntry) : (s.setHeader h e).plant = s.plant := rfl
@[simp] theorem State.setHeader_filterConfig (s : State) (h : Header) (e : HeaderEntry) (g : FilterId) : (s.setHeader h e).filterConfig g = s.filterConfig g := rfl

/-! `leaveWaits` -/

@[simp] theorem State.leaveWaits_pending (s : State) (c : Slot) : (s.leaveWaits c).pending = s.pending := rfl
@[simp] theorem State.leaveWaits_mc (s : State) (c : Slot) : (s.leaveWaits c).mc = s.mc := rfl
@[simp] theorem State.leaveWaits_hlu (s : State) (c : Slot) : (s.leaveWaits c).hlu = s.hlu := rfl
@[simp] theorem State.leaveWaits_cs (s : State) (c : Slot) : (s.leaveWaits c).cs = s.cs := rfl
@[simp] theorem State.leaveWaits_gbm (s : State) (c : Slot) : (s.leaveWaits c).gbm = s.gbm := rfl
@[simp] theorem State.leaveWaits_ft (s : State) (c : Slot) : (s.leaveWaits c).ft = s.ft := rfl
@[simp] theorem State.leaveWaits_te (s : State) (c : Slot) : (s.leaveWaits c).te = s.te := rfl
@[simp] theorem State.leaveWaits_wq (s : State) (c : Slot) : (s.leaveWaits c).wq = s.wq := rfl
@[simp] theorem State.leaveWaits_au (s : State) (c : Slot) : (s.leaveWaits c).au = s.au := rfl
@[simp] theorem State.leaveWaits_ss (s : State) (c : Slot) : (s.leaveWaits c).ss = s.ss := rfl
@[simp] theorem State.leaveWaits_nu (s : State) (c : Slot) : (s.leaveWaits c).nu = s.nu := rfl
@[simp] theorem State.leaveWaits_wr (s : State) (c : Slot) : (s.leaveWaits c).wr = s.wr := rfl
@[simp] theorem State.leaveWaits_free (s : State) (c : Slot) : (s.leaveWaits c).free = s.free := rfl
@[simp] theorem State.leaveWaits_filter (s : State) (c : Slot) (g : FilterId) : (s.leaveWaits c).filter g = s.filter g := rfl
@[simp] theorem State.leaveWaits_trig (s : State) (c : Slot) (g : FilterId) : (s.leaveWaits c).trig g = s.trig g := rfl
@[simp] theorem State.leaveWaits_ctx (s : State) (c : Slot) (d : Slot) : (s.leaveWaits c).ctx d = s.ctx d := rfl
@[simp] theorem State.leaveWaits_link (s : State) (c : Slot) (m : NodeId) : (s.leaveWaits c).link m = s.link m := rfl
@[simp] theorem State.leaveWaits_fnode (s : State) (c : Slot) (g : FilterId) : (s.leaveWaits c).fnode g = s.fnode g := rfl
@[simp] theorem State.leaveWaits_now (s : State) (c : Slot) : (s.leaveWaits c).now = s.now := rfl
@[simp] theorem State.leaveWaits_plant (s : State) (c : Slot) : (s.leaveWaits c).plant = s.plant := rfl
@[simp] theorem State.leaveWaits_filterConfig (s : State) (c : Slot) (g : FilterId) : (s.leaveWaits c).filterConfig g = s.filterConfig g := rfl

/-! `orphanHoldings` -/

@[simp] theorem State.orphanHoldings_pending (s : State) (c : Slot) : (s.orphanHoldings c).pending = s.pending := rfl
@[simp] theorem State.orphanHoldings_mc (s : State) (c : Slot) : (s.orphanHoldings c).mc = s.mc := rfl
@[simp] theorem State.orphanHoldings_hlu (s : State) (c : Slot) : (s.orphanHoldings c).hlu = s.hlu := rfl
@[simp] theorem State.orphanHoldings_cs (s : State) (c : Slot) : (s.orphanHoldings c).cs = s.cs := rfl
@[simp] theorem State.orphanHoldings_gbm (s : State) (c : Slot) : (s.orphanHoldings c).gbm = s.gbm := rfl
@[simp] theorem State.orphanHoldings_ft (s : State) (c : Slot) : (s.orphanHoldings c).ft = s.ft := rfl
@[simp] theorem State.orphanHoldings_te (s : State) (c : Slot) : (s.orphanHoldings c).te = s.te := rfl
@[simp] theorem State.orphanHoldings_wq (s : State) (c : Slot) : (s.orphanHoldings c).wq = s.wq := rfl
@[simp] theorem State.orphanHoldings_au (s : State) (c : Slot) : (s.orphanHoldings c).au = s.au := rfl
@[simp] theorem State.orphanHoldings_ss (s : State) (c : Slot) : (s.orphanHoldings c).ss = s.ss := rfl
@[simp] theorem State.orphanHoldings_nu (s : State) (c : Slot) : (s.orphanHoldings c).nu = s.nu := rfl
@[simp] theorem State.orphanHoldings_wr (s : State) (c : Slot) : (s.orphanHoldings c).wr = s.wr := rfl
@[simp] theorem State.orphanHoldings_free (s : State) (c : Slot) : (s.orphanHoldings c).free = s.free := rfl
@[simp] theorem State.orphanHoldings_filter (s : State) (c : Slot) (g : FilterId) : (s.orphanHoldings c).filter g = s.filter g := rfl
@[simp] theorem State.orphanHoldings_trig (s : State) (c : Slot) (g : FilterId) : (s.orphanHoldings c).trig g = s.trig g := rfl
@[simp] theorem State.orphanHoldings_ctx (s : State) (c : Slot) (d : Slot) : (s.orphanHoldings c).ctx d = s.ctx d := rfl
@[simp] theorem State.orphanHoldings_link (s : State) (c : Slot) (m : NodeId) : (s.orphanHoldings c).link m = s.link m := rfl
@[simp] theorem State.orphanHoldings_fnode (s : State) (c : Slot) (g : FilterId) : (s.orphanHoldings c).fnode g = s.fnode g := rfl
@[simp] theorem State.orphanHoldings_now (s : State) (c : Slot) : (s.orphanHoldings c).now = s.now := rfl
@[simp] theorem State.orphanHoldings_plant (s : State) (c : Slot) : (s.orphanHoldings c).plant = s.plant := rfl
@[simp] theorem State.orphanHoldings_filterConfig (s : State) (c : Slot) (g : FilterId) : (s.orphanHoldings c).filterConfig g = s.filterConfig g := rfl

/-! `setDuty` -/

@[simp] theorem State.setDuty_pending (s : State) (p : SupplyPair) (u : UnitId) : (s.setDuty p u).pending = s.pending := by cases p <;> rfl
@[simp] theorem State.setDuty_mc (s : State) (p : SupplyPair) (u : UnitId) : (s.setDuty p u).mc = s.mc := by cases p <;> rfl
@[simp] theorem State.setDuty_hlu (s : State) (p : SupplyPair) (u : UnitId) : (s.setDuty p u).hlu = s.hlu := by cases p <;> rfl
@[simp] theorem State.setDuty_cs (s : State) (p : SupplyPair) (u : UnitId) : (s.setDuty p u).cs = s.cs := by cases p <;> rfl
@[simp] theorem State.setDuty_gbm (s : State) (p : SupplyPair) (u : UnitId) : (s.setDuty p u).gbm = s.gbm := by cases p <;> rfl
@[simp] theorem State.setDuty_ft (s : State) (p : SupplyPair) (u : UnitId) : (s.setDuty p u).ft = s.ft := by cases p <;> rfl
@[simp] theorem State.setDuty_te (s : State) (p : SupplyPair) (u : UnitId) : (s.setDuty p u).te = s.te := by cases p <;> rfl
@[simp] theorem State.setDuty_wq (s : State) (p : SupplyPair) (u : UnitId) : (s.setDuty p u).wq = s.wq := by cases p <;> rfl
@[simp] theorem State.setDuty_au (s : State) (p : SupplyPair) (u : UnitId) : (s.setDuty p u).au = s.au := by cases p <;> rfl
@[simp] theorem State.setDuty_ss (s : State) (p : SupplyPair) (u : UnitId) : (s.setDuty p u).ss = s.ss := by cases p <;> rfl
@[simp] theorem State.setDuty_nu (s : State) (p : SupplyPair) (u : UnitId) : (s.setDuty p u).nu = s.nu := by cases p <;> rfl
@[simp] theorem State.setDuty_wr (s : State) (p : SupplyPair) (u : UnitId) : (s.setDuty p u).wr = s.wr := by cases p <;> rfl
@[simp] theorem State.setDuty_free (s : State) (p : SupplyPair) (u : UnitId) : (s.setDuty p u).free = s.free := by cases p <;> rfl
@[simp] theorem State.setDuty_filter (s : State) (p : SupplyPair) (u : UnitId) (g : FilterId) : (s.setDuty p u).filter g = s.filter g := by cases p <;> rfl
@[simp] theorem State.setDuty_trig (s : State) (p : SupplyPair) (u : UnitId) (g : FilterId) : (s.setDuty p u).trig g = s.trig g := by cases p <;> rfl
@[simp] theorem State.setDuty_ctx (s : State) (p : SupplyPair) (u : UnitId) (d : Slot) : (s.setDuty p u).ctx d = s.ctx d := by cases p <;> rfl
@[simp] theorem State.setDuty_link (s : State) (p : SupplyPair) (u : UnitId) (m : NodeId) : (s.setDuty p u).link m = s.link m := by cases p <;> rfl
@[simp] theorem State.setDuty_fnode (s : State) (p : SupplyPair) (u : UnitId) (g : FilterId) : (s.setDuty p u).fnode g = s.fnode g := by cases p <;> rfl
@[simp] theorem State.setDuty_header (s : State) (p : SupplyPair) (u : UnitId) (k : Header) : (s.setDuty p u).header k = s.header k := by cases p <;> rfl
@[simp] theorem State.setDuty_now (s : State) (p : SupplyPair) (u : UnitId) : (s.setDuty p u).now = s.now := by cases p <;> rfl
@[simp] theorem State.setDuty_plant (s : State) (p : SupplyPair) (u : UnitId) : (s.setDuty p u).plant = s.plant := by cases p <;> rfl
@[simp] theorem State.setDuty_filterConfig (s : State) (p : SupplyPair) (u : UnitId) (g : FilterId) : (s.setDuty p u).filterConfig g = s.filterConfig g := by cases p <;> rfl

/-! `setUnitFault` -/

@[simp] theorem State.setUnitFault_pending (s : State) (p : SupplyPair) (u : UnitId) (v : Bool) : (s.setUnitFault p u v).pending = s.pending := by cases p <;> rfl
@[simp] theorem State.setUnitFault_mc (s : State) (p : SupplyPair) (u : UnitId) (v : Bool) : (s.setUnitFault p u v).mc = s.mc := by cases p <;> rfl
@[simp] theorem State.setUnitFault_hlu (s : State) (p : SupplyPair) (u : UnitId) (v : Bool) : (s.setUnitFault p u v).hlu = s.hlu := by cases p <;> rfl
@[simp] theorem State.setUnitFault_cs (s : State) (p : SupplyPair) (u : UnitId) (v : Bool) : (s.setUnitFault p u v).cs = s.cs := by cases p <;> rfl
@[simp] theorem State.setUnitFault_gbm (s : State) (p : SupplyPair) (u : UnitId) (v : Bool) : (s.setUnitFault p u v).gbm = s.gbm := by cases p <;> rfl
@[simp] theorem State.setUnitFault_ft (s : State) (p : SupplyPair) (u : UnitId) (v : Bool) : (s.setUnitFault p u v).ft = s.ft := by cases p <;> rfl
@[simp] theorem State.setUnitFault_te (s : State) (p : SupplyPair) (u : UnitId) (v : Bool) : (s.setUnitFault p u v).te = s.te := by cases p <;> rfl
@[simp] theorem State.setUnitFault_wq (s : State) (p : SupplyPair) (u : UnitId) (v : Bool) : (s.setUnitFault p u v).wq = s.wq := by cases p <;> rfl
@[simp] theorem State.setUnitFault_au (s : State) (p : SupplyPair) (u : UnitId) (v : Bool) : (s.setUnitFault p u v).au = s.au := by cases p <;> rfl
@[simp] theorem State.setUnitFault_ss (s : State) (p : SupplyPair) (u : UnitId) (v : Bool) : (s.setUnitFault p u v).ss = s.ss := by cases p <;> rfl
@[simp] theorem State.setUnitFault_nu (s : State) (p : SupplyPair) (u : UnitId) (v : Bool) : (s.setUnitFault p u v).nu = s.nu := by cases p <;> rfl
@[simp] theorem State.setUnitFault_wr (s : State) (p : SupplyPair) (u : UnitId) (v : Bool) : (s.setUnitFault p u v).wr = s.wr := by cases p <;> rfl
@[simp] theorem State.setUnitFault_free (s : State) (p : SupplyPair) (u : UnitId) (v : Bool) : (s.setUnitFault p u v).free = s.free := by cases p <;> rfl
@[simp] theorem State.setUnitFault_filter (s : State) (p : SupplyPair) (u : UnitId) (v : Bool) (g : FilterId) : (s.setUnitFault p u v).filter g = s.filter g := by cases p <;> rfl
@[simp] theorem State.setUnitFault_trig (s : State) (p : SupplyPair) (u : UnitId) (v : Bool) (g : FilterId) : (s.setUnitFault p u v).trig g = s.trig g := by cases p <;> rfl
@[simp] theorem State.setUnitFault_ctx (s : State) (p : SupplyPair) (u : UnitId) (v : Bool) (d : Slot) : (s.setUnitFault p u v).ctx d = s.ctx d := by cases p <;> rfl
@[simp] theorem State.setUnitFault_link (s : State) (p : SupplyPair) (u : UnitId) (v : Bool) (m : NodeId) : (s.setUnitFault p u v).link m = s.link m := by cases p <;> rfl
@[simp] theorem State.setUnitFault_fnode (s : State) (p : SupplyPair) (u : UnitId) (v : Bool) (g : FilterId) : (s.setUnitFault p u v).fnode g = s.fnode g := by cases p <;> rfl
@[simp] theorem State.setUnitFault_header (s : State) (p : SupplyPair) (u : UnitId) (v : Bool) (k : Header) : (s.setUnitFault p u v).header k = s.header k := by cases p <;> rfl
@[simp] theorem State.setUnitFault_now (s : State) (p : SupplyPair) (u : UnitId) (v : Bool) : (s.setUnitFault p u v).now = s.now := by cases p <;> rfl
@[simp] theorem State.setUnitFault_plant (s : State) (p : SupplyPair) (u : UnitId) (v : Bool) : (s.setUnitFault p u v).plant = s.plant := by cases p <;> rfl
@[simp] theorem State.setUnitFault_filterConfig (s : State) (p : SupplyPair) (u : UnitId) (v : Bool) (g : FilterId) : (s.setUnitFault p u v).filterConfig g = s.filterConfig g := by cases p <;> rfl

/-! `setQueue` -/

@[simp] theorem State.setQueue_pending (s : State) (q : List QueueEntry) : (s.setQueue q).pending = s.pending := rfl
@[simp] theorem State.setQueue_mc (s : State) (q : List QueueEntry) : (s.setQueue q).mc = s.mc := rfl
@[simp] theorem State.setQueue_hlu (s : State) (q : List QueueEntry) : (s.setQueue q).hlu = s.hlu := rfl
@[simp] theorem State.setQueue_cs (s : State) (q : List QueueEntry) : (s.setQueue q).cs = s.cs := rfl
@[simp] theorem State.setQueue_gbm (s : State) (q : List QueueEntry) : (s.setQueue q).gbm = s.gbm := rfl
@[simp] theorem State.setQueue_ft (s : State) (q : List QueueEntry) : (s.setQueue q).ft = s.ft := rfl
@[simp] theorem State.setQueue_te (s : State) (q : List QueueEntry) : (s.setQueue q).te = s.te := rfl
@[simp] theorem State.setQueue_au (s : State) (q : List QueueEntry) : (s.setQueue q).au = s.au := rfl
@[simp] theorem State.setQueue_ss (s : State) (q : List QueueEntry) : (s.setQueue q).ss = s.ss := rfl
@[simp] theorem State.setQueue_ra (s : State) (q : List QueueEntry) : (s.setQueue q).ra = s.ra := rfl
@[simp] theorem State.setQueue_nu (s : State) (q : List QueueEntry) : (s.setQueue q).nu = s.nu := rfl
@[simp] theorem State.setQueue_wr (s : State) (q : List QueueEntry) : (s.setQueue q).wr = s.wr := rfl
@[simp] theorem State.setQueue_free (s : State) (q : List QueueEntry) : (s.setQueue q).free = s.free := rfl
@[simp] theorem State.setQueue_filter (s : State) (q : List QueueEntry) (g : FilterId) : (s.setQueue q).filter g = s.filter g := rfl
@[simp] theorem State.setQueue_trig (s : State) (q : List QueueEntry) (g : FilterId) : (s.setQueue q).trig g = s.trig g := rfl
@[simp] theorem State.setQueue_ctx (s : State) (q : List QueueEntry) (d : Slot) : (s.setQueue q).ctx d = s.ctx d := rfl
@[simp] theorem State.setQueue_link (s : State) (q : List QueueEntry) (m : NodeId) : (s.setQueue q).link m = s.link m := rfl
@[simp] theorem State.setQueue_fnode (s : State) (q : List QueueEntry) (g : FilterId) : (s.setQueue q).fnode g = s.fnode g := rfl
@[simp] theorem State.setQueue_header (s : State) (q : List QueueEntry) (k : Header) : (s.setQueue q).header k = s.header k := rfl
@[simp] theorem State.setQueue_now (s : State) (q : List QueueEntry) : (s.setQueue q).now = s.now := rfl
@[simp] theorem State.setQueue_plant (s : State) (q : List QueueEntry) : (s.setQueue q).plant = s.plant := rfl
@[simp] theorem State.setQueue_filterConfig (s : State) (q : List QueueEntry) (g : FilterId) : (s.setQueue q).filterConfig g = s.filterConfig g := rfl

/-! `writeRecord` -/

@[simp] theorem State.writeRecord_pending (s : State) (r : WashRecord) : (s.writeRecord r).pending = s.pending := rfl
@[simp] theorem State.writeRecord_mc (s : State) (r : WashRecord) : (s.writeRecord r).mc = s.mc := rfl
@[simp] theorem State.writeRecord_hlu (s : State) (r : WashRecord) : (s.writeRecord r).hlu = s.hlu := rfl
@[simp] theorem State.writeRecord_cs (s : State) (r : WashRecord) : (s.writeRecord r).cs = s.cs := rfl
@[simp] theorem State.writeRecord_gbm (s : State) (r : WashRecord) : (s.writeRecord r).gbm = s.gbm := rfl
@[simp] theorem State.writeRecord_ft (s : State) (r : WashRecord) : (s.writeRecord r).ft = s.ft := rfl
@[simp] theorem State.writeRecord_te (s : State) (r : WashRecord) : (s.writeRecord r).te = s.te := rfl
@[simp] theorem State.writeRecord_wq (s : State) (r : WashRecord) : (s.writeRecord r).wq = s.wq := rfl
@[simp] theorem State.writeRecord_au (s : State) (r : WashRecord) : (s.writeRecord r).au = s.au := rfl
@[simp] theorem State.writeRecord_ss (s : State) (r : WashRecord) : (s.writeRecord r).ss = s.ss := rfl
@[simp] theorem State.writeRecord_ra (s : State) (r : WashRecord) : (s.writeRecord r).ra = s.ra := rfl
@[simp] theorem State.writeRecord_nu (s : State) (r : WashRecord) : (s.writeRecord r).nu = s.nu := rfl
@[simp] theorem State.writeRecord_free (s : State) (r : WashRecord) : (s.writeRecord r).free = s.free := rfl
@[simp] theorem State.writeRecord_filter (s : State) (r : WashRecord) (g : FilterId) : (s.writeRecord r).filter g = s.filter g := rfl
@[simp] theorem State.writeRecord_trig (s : State) (r : WashRecord) (g : FilterId) : (s.writeRecord r).trig g = s.trig g := rfl
@[simp] theorem State.writeRecord_ctx (s : State) (r : WashRecord) (d : Slot) : (s.writeRecord r).ctx d = s.ctx d := rfl
@[simp] theorem State.writeRecord_link (s : State) (r : WashRecord) (m : NodeId) : (s.writeRecord r).link m = s.link m := rfl
@[simp] theorem State.writeRecord_fnode (s : State) (r : WashRecord) (g : FilterId) : (s.writeRecord r).fnode g = s.fnode g := rfl
@[simp] theorem State.writeRecord_header (s : State) (r : WashRecord) (k : Header) : (s.writeRecord r).header k = s.header k := rfl
@[simp] theorem State.writeRecord_now (s : State) (r : WashRecord) : (s.writeRecord r).now = s.now := rfl
@[simp] theorem State.writeRecord_plant (s : State) (r : WashRecord) : (s.writeRecord r).plant = s.plant := rfl
@[simp] theorem State.writeRecord_filterConfig (s : State) (r : WashRecord) (g : FilterId) : (s.writeRecord r).filterConfig g = s.filterConfig g := rfl

/-! `shedRemove` -/

@[simp] theorem State.shedRemove_pending (s : State) (c : Slot) : (s.shedRemove c).pending = s.pending := rfl
@[simp] theorem State.shedRemove_mc (s : State) (c : Slot) : (s.shedRemove c).mc = s.mc := rfl
@[simp] theorem State.shedRemove_hlu (s : State) (c : Slot) : (s.shedRemove c).hlu = s.hlu := rfl
@[simp] theorem State.shedRemove_cs (s : State) (c : Slot) : (s.shedRemove c).cs = s.cs := rfl
@[simp] theorem State.shedRemove_gbm (s : State) (c : Slot) : (s.shedRemove c).gbm = s.gbm := rfl
@[simp] theorem State.shedRemove_ft (s : State) (c : Slot) : (s.shedRemove c).ft = s.ft := rfl
@[simp] theorem State.shedRemove_te (s : State) (c : Slot) : (s.shedRemove c).te = s.te := rfl
@[simp] theorem State.shedRemove_wq (s : State) (c : Slot) : (s.shedRemove c).wq = s.wq := rfl
@[simp] theorem State.shedRemove_ss (s : State) (c : Slot) : (s.shedRemove c).ss = s.ss := rfl
@[simp] theorem State.shedRemove_ra (s : State) (c : Slot) : (s.shedRemove c).ra = s.ra := rfl
@[simp] theorem State.shedRemove_nu (s : State) (c : Slot) : (s.shedRemove c).nu = s.nu := rfl
@[simp] theorem State.shedRemove_wr (s : State) (c : Slot) : (s.shedRemove c).wr = s.wr := rfl
@[simp] theorem State.shedRemove_free (s : State) (c : Slot) : (s.shedRemove c).free = s.free := rfl
@[simp] theorem State.shedRemove_filter (s : State) (c : Slot) (g : FilterId) : (s.shedRemove c).filter g = s.filter g := rfl
@[simp] theorem State.shedRemove_trig (s : State) (c : Slot) (g : FilterId) : (s.shedRemove c).trig g = s.trig g := rfl
@[simp] theorem State.shedRemove_ctx (s : State) (c : Slot) (d : Slot) : (s.shedRemove c).ctx d = s.ctx d := rfl
@[simp] theorem State.shedRemove_link (s : State) (c : Slot) (m : NodeId) : (s.shedRemove c).link m = s.link m := rfl
@[simp] theorem State.shedRemove_fnode (s : State) (c : Slot) (g : FilterId) : (s.shedRemove c).fnode g = s.fnode g := rfl
@[simp] theorem State.shedRemove_header (s : State) (c : Slot) (k : Header) : (s.shedRemove c).header k = s.header k := rfl
@[simp] theorem State.shedRemove_now (s : State) (c : Slot) : (s.shedRemove c).now = s.now := rfl
@[simp] theorem State.shedRemove_plant (s : State) (c : Slot) : (s.shedRemove c).plant = s.plant := rfl
@[simp] theorem State.shedRemove_filterConfig (s : State) (c : Slot) (g : FilterId) : (s.shedRemove c).filterConfig g = s.filterConfig g := rfl

/-! `setCheck` -/

@[simp] theorem State.setCheck_pending (s : State) (r : CheckResult) : (s.setCheck r).pending = s.pending := rfl
@[simp] theorem State.setCheck_mc (s : State) (r : CheckResult) : (s.setCheck r).mc = s.mc := rfl
@[simp] theorem State.setCheck_hlu (s : State) (r : CheckResult) : (s.setCheck r).hlu = s.hlu := rfl
@[simp] theorem State.setCheck_cs (s : State) (r : CheckResult) : (s.setCheck r).cs = s.cs := rfl
@[simp] theorem State.setCheck_gbm (s : State) (r : CheckResult) : (s.setCheck r).gbm = s.gbm := rfl
@[simp] theorem State.setCheck_ft (s : State) (r : CheckResult) : (s.setCheck r).ft = s.ft := rfl
@[simp] theorem State.setCheck_te (s : State) (r : CheckResult) : (s.setCheck r).te = s.te := rfl
@[simp] theorem State.setCheck_wq (s : State) (r : CheckResult) : (s.setCheck r).wq = s.wq := rfl
@[simp] theorem State.setCheck_ss (s : State) (r : CheckResult) : (s.setCheck r).ss = s.ss := rfl
@[simp] theorem State.setCheck_ra (s : State) (r : CheckResult) : (s.setCheck r).ra = s.ra := rfl
@[simp] theorem State.setCheck_nu (s : State) (r : CheckResult) : (s.setCheck r).nu = s.nu := rfl
@[simp] theorem State.setCheck_wr (s : State) (r : CheckResult) : (s.setCheck r).wr = s.wr := rfl
@[simp] theorem State.setCheck_free (s : State) (r : CheckResult) : (s.setCheck r).free = s.free := rfl
@[simp] theorem State.setCheck_filter (s : State) (r : CheckResult) (g : FilterId) : (s.setCheck r).filter g = s.filter g := rfl
@[simp] theorem State.setCheck_trig (s : State) (r : CheckResult) (g : FilterId) : (s.setCheck r).trig g = s.trig g := rfl
@[simp] theorem State.setCheck_ctx (s : State) (r : CheckResult) (d : Slot) : (s.setCheck r).ctx d = s.ctx d := rfl
@[simp] theorem State.setCheck_link (s : State) (r : CheckResult) (m : NodeId) : (s.setCheck r).link m = s.link m := rfl
@[simp] theorem State.setCheck_fnode (s : State) (r : CheckResult) (g : FilterId) : (s.setCheck r).fnode g = s.fnode g := rfl
@[simp] theorem State.setCheck_header (s : State) (r : CheckResult) (k : Header) : (s.setCheck r).header k = s.header k := rfl
@[simp] theorem State.setCheck_now (s : State) (r : CheckResult) : (s.setCheck r).now = s.now := rfl
@[simp] theorem State.setCheck_plant (s : State) (r : CheckResult) : (s.setCheck r).plant = s.plant := rfl
@[simp] theorem State.setCheck_filterConfig (s : State) (r : CheckResult) (g : FilterId) : (s.setCheck r).filterConfig g = s.filterConfig g := rfl

/-! `setMode` -/

@[simp] theorem State.setMode_pending (s : State) (x : PartMode) : (s.setMode x).pending = s.pending := rfl
@[simp] theorem State.setMode_hlu (s : State) (x : PartMode) : (s.setMode x).hlu = s.hlu := rfl
@[simp] theorem State.setMode_cs (s : State) (x : PartMode) : (s.setMode x).cs = s.cs := rfl
@[simp] theorem State.setMode_gbm (s : State) (x : PartMode) : (s.setMode x).gbm = s.gbm := rfl
@[simp] theorem State.setMode_ft (s : State) (x : PartMode) : (s.setMode x).ft = s.ft := rfl
@[simp] theorem State.setMode_te (s : State) (x : PartMode) : (s.setMode x).te = s.te := rfl
@[simp] theorem State.setMode_wq (s : State) (x : PartMode) : (s.setMode x).wq = s.wq := rfl
@[simp] theorem State.setMode_au (s : State) (x : PartMode) : (s.setMode x).au = s.au := rfl
@[simp] theorem State.setMode_ss (s : State) (x : PartMode) : (s.setMode x).ss = s.ss := rfl
@[simp] theorem State.setMode_ra (s : State) (x : PartMode) : (s.setMode x).ra = s.ra := rfl
@[simp] theorem State.setMode_nu (s : State) (x : PartMode) : (s.setMode x).nu = s.nu := rfl
@[simp] theorem State.setMode_wr (s : State) (x : PartMode) : (s.setMode x).wr = s.wr := rfl
@[simp] theorem State.setMode_free (s : State) (x : PartMode) : (s.setMode x).free = s.free := rfl
@[simp] theorem State.setMode_filter (s : State) (x : PartMode) (g : FilterId) : (s.setMode x).filter g = s.filter g := rfl
@[simp] theorem State.setMode_trig (s : State) (x : PartMode) (g : FilterId) : (s.setMode x).trig g = s.trig g := rfl
@[simp] theorem State.setMode_ctx (s : State) (x : PartMode) (d : Slot) : (s.setMode x).ctx d = s.ctx d := rfl
@[simp] theorem State.setMode_link (s : State) (x : PartMode) (m : NodeId) : (s.setMode x).link m = s.link m := rfl
@[simp] theorem State.setMode_fnode (s : State) (x : PartMode) (g : FilterId) : (s.setMode x).fnode g = s.fnode g := rfl
@[simp] theorem State.setMode_header (s : State) (x : PartMode) (k : Header) : (s.setMode x).header k = s.header k := rfl
@[simp] theorem State.setMode_now (s : State) (x : PartMode) : (s.setMode x).now = s.now := rfl
@[simp] theorem State.setMode_plant (s : State) (x : PartMode) : (s.setMode x).plant = s.plant := rfl
@[simp] theorem State.setMode_filterConfig (s : State) (x : PartMode) (g : FilterId) : (s.setMode x).filterConfig g = s.filterConfig g := rfl

/-! `setWorking` -/

@[simp] theorem State.setWorking_pending (s : State) (w : WorkingConfig) : (s.setWorking w).pending = s.pending := rfl
@[simp] theorem State.setWorking_mc (s : State) (w : WorkingConfig) : (s.setWorking w).mc = s.mc := rfl
@[simp] theorem State.setWorking_hlu (s : State) (w : WorkingConfig) : (s.setWorking w).hlu = s.hlu := rfl
@[simp] theorem State.setWorking_gbm (s : State) (w : WorkingConfig) : (s.setWorking w).gbm = s.gbm := rfl
@[simp] theorem State.setWorking_ft (s : State) (w : WorkingConfig) : (s.setWorking w).ft = s.ft := rfl
@[simp] theorem State.setWorking_te (s : State) (w : WorkingConfig) : (s.setWorking w).te = s.te := rfl
@[simp] theorem State.setWorking_wq (s : State) (w : WorkingConfig) : (s.setWorking w).wq = s.wq := rfl
@[simp] theorem State.setWorking_au (s : State) (w : WorkingConfig) : (s.setWorking w).au = s.au := rfl
@[simp] theorem State.setWorking_ss (s : State) (w : WorkingConfig) : (s.setWorking w).ss = s.ss := rfl
@[simp] theorem State.setWorking_ra (s : State) (w : WorkingConfig) : (s.setWorking w).ra = s.ra := rfl
@[simp] theorem State.setWorking_nu (s : State) (w : WorkingConfig) : (s.setWorking w).nu = s.nu := rfl
@[simp] theorem State.setWorking_wr (s : State) (w : WorkingConfig) : (s.setWorking w).wr = s.wr := rfl
@[simp] theorem State.setWorking_free (s : State) (w : WorkingConfig) : (s.setWorking w).free = s.free := rfl
@[simp] theorem State.setWorking_filter (s : State) (w : WorkingConfig) (g : FilterId) : (s.setWorking w).filter g = s.filter g := rfl
@[simp] theorem State.setWorking_trig (s : State) (w : WorkingConfig) (g : FilterId) : (s.setWorking w).trig g = s.trig g := rfl
@[simp] theorem State.setWorking_ctx (s : State) (w : WorkingConfig) (d : Slot) : (s.setWorking w).ctx d = s.ctx d := rfl
@[simp] theorem State.setWorking_link (s : State) (w : WorkingConfig) (m : NodeId) : (s.setWorking w).link m = s.link m := rfl
@[simp] theorem State.setWorking_fnode (s : State) (w : WorkingConfig) (g : FilterId) : (s.setWorking w).fnode g = s.fnode g := rfl
@[simp] theorem State.setWorking_header (s : State) (w : WorkingConfig) (k : Header) : (s.setWorking w).header k = s.header k := rfl
@[simp] theorem State.setWorking_now (s : State) (w : WorkingConfig) : (s.setWorking w).now = s.now := rfl

/-! Reading back what was written -/

theorem State.filter_setFilter (s : State) (f g : FilterId) (r : FilterRecord) :
    (s.setFilter f r).filter g = if f = g then r else s.filter g := by
  simp [State.filter, State.setFilter, Vector.getElem_set, Fin.ext_iff]

@[simp] theorem State.filter_setFilter_same (s : State) (f : FilterId) (r : FilterRecord) :
    (s.setFilter f r).filter f = r := by simp [State.filter_setFilter]

@[simp] theorem State.filter_setFilter_ne (s : State) {f g : FilterId} (r : FilterRecord) (h : f ≠ g) :
    (s.setFilter f r).filter g = s.filter g := by simp [State.filter_setFilter, h]

theorem State.trig_setTrig (s : State) (f g : FilterId) (t : Triggers) :
    (s.setTrig f t).trig g = if f = g then t else s.trig g := by
  simp [State.trig, State.setTrig, Vector.getElem_set, Fin.ext_iff]

theorem State.ctx_setCtx (s : State) (c d : Slot) (w : Option WashContext) :
    (s.setCtx c w).ctx d = if c = d then w else s.ctx d := by
  simp [State.ctx, State.setCtx, Vector.getElem_set, Fin.ext_iff]

@[simp] theorem State.ctx_setCtx_same (s : State) (c : Slot) (w : Option WashContext) :
    (s.setCtx c w).ctx c = w := by simp [State.ctx_setCtx]

@[simp] theorem State.ctx_setCtx_ne (s : State) {c d : Slot} (w : Option WashContext) (h : c ≠ d) :
    (s.setCtx c w).ctx d = s.ctx d := by simp [State.ctx_setCtx, h]

theorem State.link_setLink (s : State) (n m : NodeId) (l : NodeLink) :
    (s.setLink n l).link m = if n.index = m.index then l else s.link m := by
  simp [State.link, State.setLink, Vector.getElem_set, Fin.ext_iff]

@[simp] theorem State.link_setLink_same (s : State) (n : NodeId) (l : NodeLink) : (s.setLink n l).link n = l := by
  simp [State.link_setLink]

theorem State.fnode_setFnode (s : State) (f g : FilterId) (n : FilterNode) :
    (s.setFnode f n).fnode g = if f = g then n else s.fnode g := by
  simp [State.fnode, State.setFnode, Vector.getElem_set, Fin.ext_iff]

@[simp] theorem State.fnode_setFnode_same (s : State) (f : FilterId) (n : FilterNode) : (s.setFnode f n).fnode f = n := by
  simp [State.fnode_setFnode]

theorem State.header_setHeader (s : State) (h k : Header) (e : HeaderEntry) :
    (s.setHeader h e).header k = if h = k then e else s.header k := by
  cases h <;> cases k <;> simp [State.header, State.setHeader, HeaderTable.get, HeaderTable.set]

@[simp] theorem State.header_setHeader_same (s : State) (h : Header) (e : HeaderEntry) :
    (s.setHeader h e).header h = e := by simp [State.header_setHeader]

@[simp] theorem State.leaveWaits_holdings (s : State) (c : Slot) (h : Header) :
    ((s.leaveWaits c).header h).holdings = (s.header h).holdings := by cases h <;> rfl

@[simp] theorem State.orphanHoldings_waiting (s : State) (c : Slot) (h : Header) :
    ((s.orphanHoldings c).header h).waiting = (s.header h).waiting := by cases h <;> rfl

end Sys2Proof.Machine
end

