-- ==== Sys2Proof/Laws/Link.lean ====
section
/-! SUPPORT. What the receipt of a frame does, said once (R160 to R165): the owning block's decision on a frame that passes the tests of
R163, the two forms of reply, and the numbers that bodies carry. -/

namespace Sys2Proof.Machine

theorem State.hears_iff (s : State) : s.hears = true ↔ s.mc.power = .running ∧ s.hlu.receiver ≠ .busy := by
  simp [State.hears, State.running]

/-- A frame that is heard, has the length of its kind and comes in a mode that accepts it is decided by its owning block. -/
theorem State.receive_own {s : State} {k : Kind} {body : List Byte} {own : State → Decision} (power : s.mc.power = .running)
    (idle : s.hlu.receiver ≠ .busy) (length : body.length = k.bodyLength body) (fits : body.length ≤ 240)
    (mode : k.accepted s.mc.mode = true) :
    s.receive k body own =
      (s.frameTaken (BitVec.ofNat 8 k.code) body).answer k (own (s.frameTaken (BitVec.ofNat 8 k.code) body)) := by
  have heard : s.hears = true := (State.hears_iff s).2 ⟨power, idle⟩
  have fits' : ¬ 240 < body.length := Nat.not_lt.2 fits
  have mode' : k.accepted (s.frameTaken (BitVec.ofNat 8 k.code) body).mc.mode = true := mode
  simp only [State.receive, heard, if_true, fits', if_false]
  unfold judge
  simp [length, mode']

/-- A frame of a kind that the mode does not accept is refused MODE. -/
theorem State.receive_mode {s : State} {k : Kind} {body : List Byte} {own : State → Decision} (power : s.mc.power = .running)
    (idle : s.hlu.receiver ≠ .busy) (length : body.length = k.bodyLength body) (fits : body.length ≤ 240)
    (mode : k.accepted s.mc.mode = false) :
    s.receive k body own =
      (s.frameTaken (BitVec.ofNat 8 k.code) body).replyRefused (BitVec.ofNat 8 k.code) (Refuse.of .mode) := by
  have heard : s.hears = true := (State.hears_iff s).2 ⟨power, idle⟩
  have fits' : ¬ 240 < body.length := Nat.not_lt.2 fits
  have mode' : k.accepted (s.frameTaken (BitVec.ofNat 8 k.code) body).mc.mode = false := mode
  simp only [State.receive, heard, if_true, fits', if_false]
  unfold judge
  simp [length, mode', State.answer, refuse]

theorem State.answer_accept (s t : State) (k : Kind) (body : List Byte) : s.answer k (accept t body) = t.replyOk k body := rfl

theorem State.answer_refuse (s : State) (k : Kind) (r : Reason) :
    s.answer k (refuse r) = s.replyRefused (BitVec.ofNat 8 k.code) ⟨r, 0⟩ := rfl

theorem State.answer_error (s : State) (k : Kind) (r : Refuse) : s.answer k (.error r) = s.replyRefused (BitVec.ofNat 8 k.code) r :=
  rfl

theorem filterOfNumber_some (f : FilterId) : filterOfNumber? (f.val + 1) = some f := by
  have h : 1 ≤ f.val + 1 ∧ f.val + 1 ≤ 20 := by omega
  simp [filterOfNumber?, h]

theorem filterOfNumber_none {n : Nat} (h : n = 0 ∨ 20 < n) : filterOfNumber? n = none := by
  have : ¬ (1 ≤ n ∧ n ≤ 20) := by omega
  simp [filterOfNumber?, this]

theorem slotOfNumber_some (c : Slot) : slotOfNumber? c.val = some c := by
  have h : c.val < 4 := c.isLt
  simp [slotOfNumber?, h]

theorem slotOfNumber_none {n : Nat} (h : 3 < n) : slotOfNumber? n = none := by
  have : ¬ n < 4 := by omega
  simp [slotOfNumber?, this]

theorem withFilter_some {body : List Byte} {f : FilterId} (g : FilterId → Decision) (h : u8 body 0 = f.val + 1) :
    withFilter body g = g f := by simp [withFilter, h, filterOfNumber_some]

theorem withFilter_none {body : List Byte} (g : FilterId → Decision) (h : u8 body 0 = 0 ∨ 20 < u8 body 0) :
    withFilter body g = refuse .range := by simp [withFilter, filterOfNumber_none h]

theorem withSlot_some {body : List Byte} {c : Slot} (g : Slot → Decision) (h : u8 body 0 = c.val) : withSlot body g = g c := by
  simp [withSlot, h, slotOfNumber_some]

theorem withSlot_none {body : List Byte} (g : Slot → Decision) (h : 3 < u8 body 0) : withSlot body g = refuse .range := by
  simp [withSlot, slotOfNumber_none h]

end Sys2Proof.Machine
end

