-- ==== Sys2Proof/Laws/Queue.lean ====
section
/-! SUPPORT. The order of the wash queue (R33): `entryBefore` is a strict order, total on entries of different filters, and
insertion, removal and upgrade keep the queue in it. -/

namespace Sys2Proof.Machine

open Sys2Proof.Safety

theorem entryBefore_iff (a b : QueueEntry) :
    entryBefore a b = true ↔
      a.cls.rank < b.cls.rank ∨ a.cls.rank = b.cls.rank ∧
        (a.entryTime.toNat < b.entryTime.toNat ∨
          a.entryTime.toNat = b.entryTime.toNat ∧ a.filter.val < b.filter.val) := by
  simp [entryBefore, BitVec.toNat_eq]

theorem entryBefore_trans {a b c : QueueEntry} (h : entryBefore a b = true) (k : entryBefore b c = true) :
    entryBefore a c = true := by
  rw [entryBefore_iff] at *
  omega

theorem entryBefore_total {a b : QueueEntry} (h : a.filter ≠ b.filter) (k : ¬ entryBefore a b = true) :
    entryBefore b a = true := by
  rw [entryBefore_iff] at *
  have : a.filter.val ≠ b.filter.val := fun e => h (Fin.ext e)
  omega

theorem mem_insertEntry {e x : QueueEntry} {q : List QueueEntry} : x ∈ insertEntry e q ↔ x = e ∨ x ∈ q := by
  induction q with
  | nil => simp [insertEntry]
  | cons y ys ih =>
    by_cases h : entryBefore e y = true
    · simp [insertEntry, h]
    · simp [insertEntry, h, ih, or_left_comm]

/-- The order of R33 with no two entries for one filter. -/
def queueOrdered (q : List QueueEntry) : Prop := q.Pairwise fun a b => entryBefore a b = true ∧ a.filter ≠ b.filter

theorem queueOrdered_insert {e : QueueEntry} {q : List QueueEntry} (h : queueOrdered q)
    (new : ∀ x ∈ q, x.filter ≠ e.filter) : queueOrdered (insertEntry e q) := by
  induction q with
  | nil => simp [insertEntry, queueOrdered]
  | cons y ys ih =>
    unfold queueOrdered at *
    rw [List.pairwise_cons] at h
    have ny := new y (by simp)
    by_cases k : entryBefore e y = true
    · simp only [insertEntry, k, if_true, List.pairwise_cons, List.mem_cons]
      refine ⟨?_, h.1, h.2⟩
      rintro x (rfl | hx)
      · exact ⟨k, fun c => ny c.symm⟩
      · exact ⟨entryBefore_trans k (h.1 x hx).1, fun c => new x (by simp [hx]) c.symm⟩
    · simp only [insertEntry, k, Bool.false_eq_true, if_false, List.pairwise_cons]
      refine ⟨?_, ih h.2 fun x hx => new x (by simp [hx])⟩
      intro x hx
      rw [mem_insertEntry] at hx
      rcases hx with rfl | hx
      · exact ⟨entryBefore_total (fun c => ny c.symm) k, ny⟩
      · exact h.1 x hx

theorem queueOrdered_without {f : FilterId} {q : List QueueEntry} (h : queueOrdered q) :
    queueOrdered (withoutEntry f q) := h.filter _

theorem filter_ne_of_mem_without {f : FilterId} {q : List QueueEntry} {x : QueueEntry} (h : x ∈ withoutEntry f q) :
    x.filter ≠ f := by
  simp [withoutEntry] at h
  exact h.2

theorem queueLaw_putEntry {s : State} {e : QueueEntry} (h : QueueLaw s) : QueueLaw (s.putEntry e) :=
  queueOrdered_insert (queueOrdered_without h) fun _ hx => filter_ne_of_mem_without hx

theorem queueLaw_removeEntry {s : State} {f : FilterId} (h : QueueLaw s) : QueueLaw (s.removeEntry f) := by
  unfold State.removeEntry
  split
  · exact queueOrdered_without h
  · exact h

/-- `putEntry` puts the entry in, and keeps the entries of every other filter. -/
theorem mem_putEntry {s : State} {e x : QueueEntry} :
    x ∈ (s.putEntry e).wq.entries ↔ x = e ∨ x ∈ s.wq.entries ∧ x.filter ≠ e.filter := by
  simp [State.putEntry, State.setQueue, mem_insertEntry, withoutEntry]

/-- `removeEntry` takes a filter's entry out, and keeps the others. -/
theorem mem_removeEntry {s : State} {f : FilterId} {x : QueueEntry} :
    x ∈ (s.removeEntry f).wq.entries ↔ x ∈ s.wq.entries ∧ x.filter ≠ f := by
  unfold State.removeEntry State.entry?
  split
  · simp [State.setQueue, withoutEntry]
  · rename_i h
    simp at h
    constructor
    · intro hx
      exact ⟨hx, h x hx⟩
    · exact And.left

end Sys2Proof.Machine
end

