-- ==== Sys2Proof/Laws/Plant.lean ====
section
/-! SUPPORT. What every operation of the plant-side blocks (FT, TE, WQ, AU, SS, RA, NU, WR) can do, said once: `PlantStep s t` says
that `t` differs from `s` in none of the command queue, mode control, host link, configuration and node links, and keeps the
laws of ATTN, the record list, the queue order and the header capacities. One lemma for each operation. -/

namespace Sys2Proof.Machine

open Sys2Proof.Safety

/-- ATTN follows the accounts and the gap (R174), whatever the power. -/
def attnOk (u : NoticeUnit) : Prop := u.attnDriven = (u.anyPending && !u.attnGap)

/-- What a plant-side operation can do. -/
structure PlantStep (s t : State) : Prop where
  pending  : t.pending = s.pending
  mc       : t.mc = s.mc
  hlu      : t.hlu = s.hlu
  cs       : t.cs = s.cs
  links    : t.gbm.links = s.gbm.links
  settings : t.gbm.settings = s.gbm.settings
  phase    : t.gbm.phase = s.gbm.phase
  attn     : attnOk s.nu → attnOk t.nu
  records  : RecordLaw s → RecordLaw t
  queue    : QueueLaw s → QueueLaw t
  capacity : CapacityLaw s → CapacityLaw t

namespace PlantStep

theorem refl (s : State) : PlantStep s s := ⟨rfl, rfl, rfl, rfl, rfl, rfl, rfl, id, id, id, id⟩

theorem trans {s t u : State} (h : PlantStep s t) (k : PlantStep t u) : PlantStep s u :=
  ⟨k.pending.trans h.pending, k.mc.trans h.mc, k.hlu.trans h.hlu, k.cs.trans h.cs, k.links.trans h.links,
    k.settings.trans h.settings, k.phase.trans h.phase, fun a => k.attn (h.attn a), fun a => k.records (h.records a),
    fun a => k.queue (h.queue a), fun a => k.capacity (h.capacity a)⟩

/-- An update of a block whose laws are not among those of `PlantStep`. -/
theorem of_eq {s t : State} (pending : t.pending = s.pending) (mc : t.mc = s.mc) (hlu : t.hlu = s.hlu) (cs : t.cs = s.cs)
    (links : t.gbm.links = s.gbm.links) (settings : t.gbm.settings = s.gbm.settings) (phase : t.gbm.phase = s.gbm.phase)
    (nu : t.nu = s.nu) (wr : t.wr = s.wr) (wq : t.wq = s.wq) (headers : t.ra.headers = s.ra.headers) : PlantStep s t where
  pending := pending
  mc := mc
  hlu := hlu
  cs := cs
  links := links
  settings := settings
  phase := phase
  attn h := by rw [nu]; exact h
  records h := by unfold RecordLaw at *; rw [wr]; exact h
  queue h := by unfold QueueLaw at *; rw [wq]; exact h
  capacity h := by
    unfold CapacityLaw State.header at *
    rw [headers]
    exact h

theorem ite {s t u : State} {p : Prop} [Decidable p] (h : PlantStep s t) (k : PlantStep s u) :
    PlantStep s (if p then t else u) := by split <;> assumption

theorem withCtx {s : State} {c : Slot} {g : WashContext → State} (h : ∀ w, s.ctx c = some w → PlantStep s (g w)) :
    PlantStep s (s.withCtx c g) := by
  unfold State.withCtx
  split
  · exact h _ (by assumption)
  · exact refl s

theorem foldl {α : Type} {g : State → α → State} (h : ∀ s x, PlantStep s (g s x)) (l : List α) (s : State) :
    PlantStep s (l.foldl g s) := by
  induction l generalizing s with
  | nil => exact refl s
  | cons x xs ih => exact (h s x).trans (ih (g s x))

/-! ### Primitive updates -/

theorem setFilter (s : State) (f : FilterId) (r : FilterRecord) : PlantStep s (s.setFilter f r) := of_eq rfl rfl rfl rfl rfl rfl rfl rfl rfl rfl rfl

theorem modFilter (s : State) (f : FilterId) (g : FilterRecord → FilterRecord) : PlantStep s (s.modFilter f g) := setFilter _ _ _

theorem setTrig (s : State) (f : FilterId) (t : Triggers) : PlantStep s (s.setTrig f t) := of_eq rfl rfl rfl rfl rfl rfl rfl rfl rfl rfl rfl

theorem setCtx (s : State) (c : Slot) (w : Option WashContext) : PlantStep s (s.setCtx c w) := of_eq rfl rfl rfl rfl rfl rfl rfl rfl rfl rfl rfl

theorem modCtx (s : State) (c : Slot) (g : WashContext → WashContext) : PlantStep s (s.modCtx c g) := setCtx _ _ _

theorem setFnode (s : State) (f : FilterId) (n : FilterNode) : PlantStep s (s.setFnode f n) := of_eq rfl rfl rfl rfl rfl rfl rfl rfl rfl rfl rfl

theorem writeImage (s : State) (f : FilterId) (i : PerValve Bool) : PlantStep s (s.writeImage f i) := setFnode _ _ _

theorem writePumps (s : State) (i : PumpImage) : PlantStep s (s.writePumps i) := of_eq rfl rfl rfl rfl rfl rfl rfl rfl rfl rfl rfl

theorem writeBlowers (s : State) (i : BlowerImage) : PlantStep s (s.writeBlowers i) := of_eq rfl rfl rfl rfl rfl rfl rfl rfl rfl rfl rfl

theorem setDuty (s : State) (p : SupplyPair) (u : UnitId) : PlantStep s (s.setDuty p u) := by
  cases p <;> exact of_eq rfl rfl rfl rfl rfl rfl rfl rfl rfl rfl rfl

theorem setUnitFault (s : State) (p : SupplyPair) (u : UnitId) (v : Bool) : PlantStep s (s.setUnitFault p u v) := by
  cases p <;> exact of_eq rfl rfl rfl rfl rfl rfl rfl rfl rfl rfl rfl

theorem writeUnits (s : State) (p : SupplyPair) (r : UnitSet) : PlantStep s (s.writeUnits p r) := by
  cases p
  · exact writeBlowers _ _
  · exact writePumps _ _

theorem writeStop (s : State) (p : SupplyPair) : PlantStep s (s.writeStop p) := by
  cases p
  · exact writeBlowers _ _
  · exact writePumps _ _

theorem shedRemove (s : State) (c : Slot) : PlantStep s (s.shedRemove c) := of_eq rfl rfl rfl rfl rfl rfl rfl rfl rfl rfl rfl

theorem shedAdd (s : State) (c : Slot) : PlantStep s (s.shedAdd c) := by
  unfold State.shedAdd
  split
  · exact refl s
  · exact of_eq rfl rfl rfl rfl rfl rfl rfl rfl rfl rfl rfl

theorem setCheck (s : State) (r : CheckResult) : PlantStep s (s.setCheck r) := of_eq rfl rfl rfl rfl rfl rfl rfl rfl rfl rfl rfl

/-! ### Notices -/

theorem attnOk_update (u : NoticeUnit) : attnOk u.updateAttn := rfl

theorem raise (s : State) (k : NoticeKind) (n : Nat) : PlantStep s (s.raise k n) := by
  unfold State.raise
  split
  · exact ⟨rfl, rfl, rfl, rfl, rfl, rfl, rfl, fun _ => rfl, id, id, id⟩
  · exact refl s

theorem raiseIf (s : State) (b : Bool) (k : NoticeKind) : PlantStep s (s.raiseIf b k) := ite (raise _ _ _) (refl s)

/-! ### Records -/

theorem writeRecord (s : State) (r : WashRecord) : PlantStep s (s.writeRecord r) where
  pending := rfl
  mc := rfl
  hlu := rfl
  cs := rfl
  links := rfl
  settings := rfl
  phase := rfl
  attn h := h
  records _ := by
    unfold RecordLaw State.writeRecord
    simp only [List.length_take]
    omega
  queue h := h
  capacity h := h

theorem recordWash (s : State) (w : WashContext) (o : WashOutcome) (a b : Option FaultCause) (x : Option Snapshot) :
    PlantStep s (s.recordWash w o a b x) := writeRecord _ _

/-! ### Queue -/

theorem putEntry (s : State) (e : QueueEntry) : PlantStep s (s.putEntry e) :=
  ⟨rfl, rfl, rfl, rfl, rfl, rfl, rfl, id, id, queueLaw_putEntry, id⟩

theorem removeEntry (s : State) (f : FilterId) : PlantStep s (s.removeEntry f) := by
  have h := queueLaw_removeEntry (s := s) (f := f)
  unfold State.removeEntry at *
  split
  · rename_i k
    simp only [k, if_true] at h
    exact ⟨rfl, rfl, rfl, rfl, rfl, rfl, rfl, id, id, h, id⟩
  · exact refl s

theorem request (s : State) (f : FilterId) (x : WashCause) : PlantStep s (s.request f x) := by
  unfold State.request
  repeat' split
  all_goals first | exact refl s | exact putEntry _ _

theorem requestIf (s : State) (b : Bool) (f : FilterId) (x : WashCause) : PlantStep s (s.requestIf b f x) :=
  ite (request _ _ _) (refl s)

theorem reinsert (s : State) (e : QueueEntry) : PlantStep s (s.reinsert e) := putEntry _ _

/-! ### Headers -/

/-- A change of the header table that keeps the capacities. -/
theorem headers {s t : State} (other : t = { s with ra := { s.ra with headers := t.ra.headers } })
    (h : CapacityLaw s → CapacityLaw t) : PlantStep s t := by
  rw [other] at h ⊢
  exact ⟨rfl, rfl, rfl, rfl, rfl, rfl, rfl, id, id, id, h⟩

theorem setHeader {s : State} {h : Header} {e : HeaderEntry}
    (k : (s.header h).holdings.length ≤ h.capacity → e.holdings.length ≤ h.capacity) : PlantStep s (s.setHeader h e) :=
  headers rfl fun c g => by
    rw [State.header_setHeader]
    split
    · rename_i e
      subst e
      exact k (c h)
    · exact c g

theorem addHolding {s : State} {c : Slot} {h : Header} (room : s.hasRoom h = true) : PlantStep s (s.addHolding c h) :=
  setHeader fun _ => by
    simp only [State.hasRoom, decide_eq_true_eq] at room
    simp only [List.length_append, List.length_singleton]
    omega

theorem addWaiter (s : State) (c : Slot) (h : Header) : PlantStep s (s.addWaiter c h) := setHeader fun k => k

theorem dropHolding (s : State) (c : Slot) (h : Header) : PlantStep s (s.dropHolding c h) :=
  setHeader fun k => Nat.le_trans (List.length_filter_le _ _) k

theorem leaveWaits (s : State) (c : Slot) : PlantStep s (s.leaveWaits c) :=
  headers rfl fun k g => by
    rw [State.leaveWaits_holdings]
    exact k g

theorem orphanHoldings (s : State) (c : Slot) : PlantStep s (s.orphanHoldings c) :=
  headers rfl fun k g => by
    have := k g
    cases g <;> simpa [State.orphanHoldings, State.header, HeaderTable.get] using this

theorem freeSlot (s : State) (c : Slot) : PlantStep s (s.freeSlot c) :=
  ((((leaveWaits _ _).trans (dropHolding _ _ _)).trans (dropHolding _ _ _)).trans (dropHolding _ _ _)).trans (setCtx _ _ _)

/-! ### Floor -/

theorem setBreach (s : State) (b : Bool) : PlantStep s (s.setBreach b) := of_eq rfl rfl rfl rfl rfl rfl rfl rfl rfl rfl rfl

theorem evalFloorNow (s : State) : PlantStep s s.evalFloorNow := by
  unfold State.evalFloorNow
  exact ite (refl s) ((setBreach _ _).trans (raise _ _ _))

theorem evalFloor (s : State) : PlantStep s s.evalFloor := ite (refl s) (evalFloorNow s)

theorem recomputeRequired (s : State) : PlantStep s s.recomputeRequired :=
  (of_eq rfl rfl rfl rfl rfl rfl rfl rfl rfl rfl rfl : PlantStep s s.setRequired).trans (evalFloor _)

/-! ### Filter table and triggers -/

theorem changeState (s : State) (f : FilterId) (x : FilterState) : PlantStep s (s.changeState f x) := by
  unfold State.changeState
  split
  · exact refl s
  · dsimp only
    refine trans (modFilter s f _) (trans (ite (setTrig _ _ _) (refl _)) (trans (ite (removeEntry _ _) (refl _)) (evalFloor _)))

theorem startMovement (s : State) (f : FilterId) (b : Bool) : PlantStep s (s.startMovement f b) :=
  (modFilter _ _ _).trans (writeImage _ _ _)

theorem completeMovement (s : State) (f : FilterId) (b : Bool) : PlantStep s (s.completeMovement f b) := by
  unfold State.completeMovement
  exact ite ((modFilter _ _ _).trans (changeState _ _ _)) ((modFilter _ _ _).trans (changeState _ _ _))

theorem movementAnswer (s : State) (f : FilterId) : PlantStep s (s.movementAnswer f) := by
  unfold State.movementAnswer
  split
  · exact refl s
  · exact ite (completeMovement _ _ _) (modFilter _ _ _)

theorem failMovement (s : State) (f : FilterId) (m : Movement) : PlantStep s (s.failMovement f m) :=
  ((modFilter _ _ _).trans (changeState _ _ _)).trans (raise _ _ _)

theorem takeLocal (s : State) (f : FilterId) : PlantStep s (s.takeLocal f) := (modFilter _ _ _).trans (changeState _ _ _)

theorem surveyOfOne (s : State) (f : FilterId) (w : BitVec 16) (b : Bool) : PlantStep s (s.surveyOfOne f w b) := by
  unfold State.surveyOfOne
  dsimp only
  refine ite (takeLocal _ _) ?_
  have h := ((modFilter s f fun r => { r with
        held := (surveyOutcome (viewOfWord w)).2.1
        commanded := (surveyOutcome (viewOfWord w)).2.2
        drift := false
        offCounts := PerValve.all false
        classifyDue := false }).trans
      (changeState _ f (surveyOutcome (viewOfWord w)).1)).trans (writeImage _ f (observedImage (viewOfWord w)))
  exact ite (h.trans (startMovement _ _ _)) h

theorem watchDrift (s : State) (f : FilterId) : PlantStep s (s.watchDrift f) := by
  unfold State.watchDrift
  dsimp only
  split
  · exact ite (ite (((modFilter _ _ _).trans (modFilter _ _ _)).trans (raise _ _ _)) (modFilter _ _ _)) (refl s)
  · exact refl s

theorem latchTrip (s : State) (f : FilterId) (i : Fin 16) : PlantStep s (s.latchTrip f i) := by
  unfold State.latchTrip
  have h : PlantStep s ((s.modFilter f fun r => { r with trip := some i }).raise .trip (filterNumber f)) :=
    (modFilter _ _ _).trans (raise _ _ _)
  dsimp only
  split
  · exact ite (h.trans (startMovement _ _ _)) h
  · exact ite (h.trans (startMovement _ _ _)) h

theorem setFree (s : State) (n : Nat) : PlantStep s { s with free := n } := of_eq rfl rfl rfl rfl rfl rfl rfl rfl rfl rfl rfl

theorem watchTrip (s : State) (f : FilterId) (w : BitVec 16) : PlantStep s (s.watchTrip f w).1 := by
  unfold State.watchTrip
  dsimp only
  have h : PlantStep s (s.modFilter f fun r => { r with previousWord := w }) := modFilter _ _ _
  split
  · exact h
  · split
    · exact (h.trans (setFree _ _)).trans (latchTrip _ _ _)
    · exact h

theorem evalTriggers (s : State) (f : FilterId) (b : Bool) : PlantStep s (s.evalTriggers f b) := by
  unfold State.evalTriggers
  refine ite ?_ (refl s)
  exact ((((((setTrig s f _).trans (setFree _ _)).trans (requestIf _ _ _ _)).trans (requestIf _ _ _ _)).trans
    (requestIf _ _ _ _)).trans (requestIf _ _ _ _))

/-! ### Commitments and exit decisions -/

theorem commitDelta (s : State) (c : Slot) (w : WashContext) (a b : Int) : PlantStep s (s.commitDelta c w a b) :=
  of_eq rfl rfl rfl rfl rfl rfl rfl rfl rfl rfl rfl

theorem releaseCommitments (s : State) (c : Slot) : PlantStep s (s.releaseCommitments c) := withCtx fun _ _ => commitDelta _ _ _ _ _

theorem subtractStep (s : State) (c : Slot) : PlantStep s (s.subtractStep c) := withCtx fun _ _ => by
  split
  · exact commitDelta _ _ _ _ _
  · exact refl s

theorem writePattern (s : State) (f : FilterId) (p : Pattern) : PlantStep s (s.writePattern f p) :=
  (writeImage _ _ _).trans (modFilter _ _ _)

theorem stopSupply (s : State) (c : Slot) (p : SupplyPair) : PlantStep s (s.stopSupply c p) := (writeStop _ _).trans (modCtx _ _ _)

theorem stopHeld (s : State) (c : Slot) : PlantStep s (s.stopHeld c) := by
  unfold State.stopHeld
  have h : PlantStep s (if s.holds c .air then s.stopSupply c .blowers else s) := ite (stopSupply _ _ _) (refl s)
  exact ite (h.trans (stopSupply _ _ _)) h

theorem decideExitAs (s : State) (c : Slot) (w : WashContext) (k : ExitKind) (x : Option FaultCause) (v : Option Valve) :
    PlantStep s (s.decideExitAs c w k x v) :=
  ((((setCtx s c _).trans (leaveWaits _ c)).trans (stopHeld _ c)).trans (modCtx _ c _)).trans (writePattern _ _ _)

theorem decideExit (s : State) (c : Slot) (x : Option FaultCause) (v : Option Valve) : PlantStep s (s.decideExit c x v) :=
  withCtx fun _ _ => ite (decideExitAs _ _ _ _ _ _) (refl s)

/-! ### Steps -/

theorem enterSetting (s : State) (c : Slot) : PlantStep s (s.enterSetting c) :=
  withCtx fun _ _ => (setCtx _ _ _).trans (writePattern _ _ _)

theorem tryHeaders (s : State) (c : Slot) (l : List Header) : PlantStep s (s.tryHeaders c l) := by
  induction l generalizing s with
  | nil => exact enterSetting s c
  | cons h hs ih =>
    unfold State.tryHeaders
    split
    · exact ih s
    · split
      · exact decideExit _ _ _ _
      · split
        · exact (addHolding (by assumption)).trans (ih _)
        · exact addWaiter _ _ _

theorem acquire (s : State) (c : Slot) : PlantStep s (s.acquire c) := withCtx fun _ _ => tryHeaders _ _ _

theorem beginStep (s : State) (c : Slot) (i : Nat) : PlantStep s (s.beginStep c i) := (modCtx _ _ _).trans (acquire _ _)

theorem grantOnward (s : State) (h : Header) (n : Nat) : PlantStep s (s.grantOnward h n) := by
  induction n generalizing s with
  | zero => exact refl s
  | succ n ih =>
    unfold State.grantOnward
    split
    · split
      · exact refl s
      · exact ((addHolding (by assumption)).trans (acquire _ _)).trans (ih _)
    · exact refl s

theorem grantFreed (s : State) (h : Header) : PlantStep s (s.grantFreed h) := grantOnward _ _ _

theorem releaseHolding (s : State) (c : Slot) (h : Header) : PlantStep s (s.releaseHolding c h) := withCtx fun w _ => by
  refine ite ?_ (refl s)
  cases h
  · exact ((dropHolding s c _).trans (stopSupply _ _ _)).trans (grantFreed _ _)
  · exact ((dropHolding s c _).trans (stopSupply _ _ _)).trans (grantFreed _ _)
  · exact (dropHolding s c _).trans (grantFreed _ _)

theorem releaseHoldings (s : State) (c : Slot) : PlantStep s (s.releaseHoldings c) :=
  ((releaseHolding _ _ _).trans (releaseHolding _ _ _)).trans (releaseHolding _ _ _)

theorem enterTiming (s : State) (c : Slot) : PlantStep s (s.enterTiming c) := modCtx _ _ _

theorem enterHoldpoint (s : State) (c : Slot) : PlantStep s (s.enterHoldpoint c) := (modCtx _ _ _).trans (stopHeld _ _)

theorem markWashed (s : State) (c : Slot) : PlantStep s (s.markWashed c) := modCtx _ _ _

theorem endStep (s : State) (c : Slot) : PlantStep s (s.endStep c) := withCtx fun _ _ => by
  split
  · exact refl s
  · have h := (subtractStep s c).trans (markWashed _ c)
    exact ite (h.trans (enterHoldpoint _ _)) (h.trans (beginStep _ _ _))

/-! ### Supplies and flow -/

theorem startUnit (s : State) (c : Slot) (p : SupplyPair) (u : UnitId) (x : UnitSet) : PlantStep s (s.startUnit c p u x) :=
  (writeUnits _ _ _).trans (modCtx _ _ _)

theorem startFailed (s : State) (c : Slot) (p : SupplyPair) : PlantStep s (s.startFailed c p) :=
  ((writeUnits _ _ _).trans (modCtx _ _ _)).trans (decideExit _ _ _ _)

theorem startSupply (s : State) (c : Slot) (p : SupplyPair) : PlantStep s (s.startSupply c p) := withCtx fun _ _ => by
  refine ite ?_ (refl s)
  split
  · exact startUnit _ _ _ _ _
  · exact decideExit _ _ _ _

theorem writeSetpoint (s : State) (n : Nat) : PlantStep s (s.writeSetpoint n) := writePumps _ _

theorem enterRamping (s : State) (c : Slot) : PlantStep s (s.enterRamping c) :=
  withCtx fun _ _ => (writeSetpoint _ _).trans (setCtx _ _ _)

theorem checkStarted (s : State) (c : Slot) : PlantStep s (s.checkStarted c) :=
  withCtx fun _ _ => ite (ite (enterTiming _ _) (enterRamping _ _)) (refl s)

theorem enterStarting (s : State) (c : Slot) : PlantStep s (s.enterStarting c) :=
  withCtx fun _ _ => ((setCtx _ _ _).trans (foldl (fun s p => startSupply s c p) _ _)).trans (checkStarted _ _)

theorem failUnit (s : State) (p : SupplyPair) (u : UnitId) : PlantStep s (s.failUnit p u) := (setUnitFault _ _ _ _).trans (raise _ _ _)

theorem startExpired (s : State) (c : Slot) (p : SupplyPair) (u : UnitId) (x : UnitSet) : PlantStep s (s.startExpired c p u x) := by
  unfold State.startExpired
  exact ite ((failUnit _ _ _).trans (startUnit _ _ _ _ _)) ((failUnit _ _ _).trans (startFailed _ _ _))

theorem runLoss (s : State) (c : Slot) (p : SupplyPair) (u : UnitId) : PlantStep s (s.runLoss c p u) := by
  unfold State.runLoss
  exact ite ((failUnit _ _ _).trans (startUnit _ _ _ _ _)) ((failUnit _ _ _).trans (startFailed _ _ _))

theorem superviseSupply (s : State) (c : Slot) (p : SupplyPair) : PlantStep s (s.superviseSupply c p) := withCtx fun _ _ => by
  split
  · exact refl s
  · exact ite (((setDuty _ _ _).trans (setCtx _ _ _)).trans (checkStarted _ _)) (refl s)
  · exact ite (setCtx _ _ _) (ite (runLoss _ _ _ _) (setCtx _ _ _))

theorem watchRamp (s : State) (c : Slot) : PlantStep s (s.watchRamp c) := withCtx fun _ _ => ite (enterTiming _ _) (refl s)

theorem watchLowFlow (s : State) (c : Slot) : PlantStep s (s.watchLowFlow c) := withCtx fun _ _ => by
  refine ite (ite ?_ (setCtx _ _ _)) (refl s)
  split
  · exact setCtx _ _ _
  · exact ite (decideExit _ _ _ _) (refl s)

theorem pumpAnswerFor (s : State) (c : Slot) : PlantStep s (s.pumpAnswerFor c) := withCtx fun _ _ => by
  have h := superviseSupply s c .pumps
  exact ite (h.trans (watchRamp _ _)) (ite (h.trans (watchLowFlow _ _)) h)

theorem rampExpired (s : State) (c : Slot) : PlantStep s (s.rampExpired c) :=
  withCtx fun _ _ => ite ((writeSetpoint _ _).trans (setCtx _ _ _)) (decideExit _ _ _ _)

/-! ### Orphans and loss -/

theorem freeOrphan (s : State) (c : Slot) : PlantStep s (s.freeOrphan c) := withCtx fun _ _ => by
  have h := (releaseCommitments s c).trans (freeSlot _ c)
  exact ite (h.trans (modFilter _ _ _)) h

theorem freeIfBare (s : State) (c : Slot) : PlantStep s (s.freeIfBare c) := ite (freeOrphan _ _) (refl s)

theorem makeOrphan (s : State) (c : Slot) : PlantStep s (s.makeOrphan c) :=
  ((leaveWaits _ _).trans (orphanHoldings _ _)).trans (modCtx _ _ _)

theorem orphan (s : State) (c : Slot) (x : FaultCause) (o : WashOutcome) : PlantStep s (s.orphan c x o) := withCtx fun _ _ =>
  ((((((stopHeld s c).trans (modCtx _ c _)).trans (makeOrphan _ c)).trans (recordWash _ _ _ _ _ _)).trans (raise _ _ _)).trans
    (shedRemove _ c)).trans (freeIfBare _ c)

theorem releaseOrphanHolding (s : State) (c : Slot) (h : Header) : PlantStep s (s.releaseOrphanHolding c h) :=
  withCtx fun _ _ => ite ((dropHolding _ _ _).trans (grantFreed _ _)) (refl s)

theorem testOrphan (s : State) (c : Slot) : PlantStep s (s.testOrphan c) :=
  ite ((((releaseOrphanHolding _ _ _).trans (releaseOrphanHolding _ _ _)).trans (releaseOrphanHolding _ _ _)).trans
    (freeIfBare _ _)) (refl s)

theorem testOrphans (s : State) : PlantStep s s.testOrphans := foldl testOrphan _ _

theorem supplyLost (s : State) (p : SupplyPair) : PlantStep s (s.supplyLost p) :=
  ((writeStop s p).trans (foldl (fun s c => stopSupply s c p) _ _)).trans (foldl (fun s c => decideExit s c _ _) _ _)

/-! ### Ends of a wash -/

theorem returnToService (s : State) (f : FilterId) (g : FilterRecord → FilterRecord) : PlantStep s (s.returnToService f g) :=
  (modFilter _ _ _).trans (changeState _ _ _)

theorem returnHeld (s : State) (f : FilterId) : PlantStep s (s.returnHeld f) := (modFilter _ _ _).trans (changeState _ _ _)

theorem requestRewash (s : State) (f : FilterId) (o : WashOutcome) : PlantStep s (s.requestRewash f o) :=
  ite ((request _ _ _).trans (modFilter _ _ _)) (refl s)

theorem completeWash (s : State) (c : Slot) : PlantStep s (s.completeWash c) := withCtx fun _ _ =>
  ((((((releaseCommitments s c).trans (returnToService _ _ _)).trans (shedRemove _ c)).trans (recordWash _ _ _ _ _ _)).trans
    (requestRewash _ _ _)).trans (raise _ _ _)).trans (freeSlot _ c)

theorem endReturnExit (s : State) (c : Slot) : PlantStep s (s.endReturnExit c) := withCtx fun _ _ =>
  ((((((releaseCommitments s c).trans (returnToService _ _ _)).trans (shedRemove _ c)).trans (reinsert _ _)).trans
    (recordWash _ _ _ _ _ _)).trans (raise _ _ _)).trans (freeSlot _ c)

theorem endSafeExit (s : State) (c : Slot) : PlantStep s (s.endSafeExit c) := withCtx fun _ _ =>
  (((((releaseCommitments s c).trans (returnHeld _ _)).trans (shedRemove _ c)).trans
    (ite (recordWash _ _ _ _ _ _) (recordWash _ _ _ _ _ _))).trans (raise _ _ _)).trans (freeSlot _ c)

theorem endLateExit (s : State) (c : Slot) : PlantStep s (s.endLateExit c) := withCtx fun _ _ =>
  (((((releaseCommitments s c).trans (returnToService _ _ _)).trans (shedRemove _ c)).trans (recordWash _ _ _ _ _ _)).trans
    (raise _ _ _)).trans (freeSlot _ c)

theorem endExit (s : State) (c : Slot) (k : ExitKind) : PlantStep s (s.endExit c k) := by
  cases k
  · exact endReturnExit s c
  · exact endSafeExit s c
  · exact endLateExit s c

theorem convertExit (s : State) (c : Slot) : PlantStep s (s.convertExit c) := withCtx fun _ _ =>
  ((setCtx s c _).trans (writePattern _ _ _)).trans (shedRemove _ c)

theorem failExit (s : State) (c : Slot) : PlantStep s (s.failExit c) := withCtx fun w _ =>
  ((((((((modFilter s w.filter _).trans (changeState _ w.filter _)).trans (raise _ _ _)).trans (recordWash _ _ _ _ _ _)).trans
    (raise _ _ _)).trans (modCtx _ c _)).trans (makeOrphan _ c)).trans (freeIfBare _ c)).trans (shedRemove _ c)

theorem stepConfirmed (s : State) (c : Slot) : PlantStep s (s.stepConfirmed c) := withCtx fun _ _ => by
  split
  · exact completeWash s c
  all_goals first | exact enterStarting s c | exact enterTiming s c

theorem ripenGood (s : State) (c : Slot) : PlantStep s (s.ripenGood c) := (modCtx _ _ _).trans (endStep _ _)

theorem watchRipen (s : State) (c : Slot) : PlantStep s (s.watchRipen c) := withCtx fun _ _ => by
  refine ite ?_ (setCtx _ _ _)
  split
  · exact setCtx _ _ _
  · exact ite (ripenGood _ _) (refl s)

theorem timingAnswer (s : State) (c : Slot) : PlantStep s (s.timingAnswer c) := withCtx fun _ _ => by
  refine ite (endStep _ _) ?_
  dsimp only
  split
  · exact (setCtx s c _).trans (decideExit _ _ _ _)
  · exact ite ((setCtx s c _).trans (watchRipen _ _)) (setCtx s c _)

theorem settingAnswer (s : State) (c : Slot) : PlantStep s (s.settingAnswer c) := withCtx fun _ _ => by
  refine ite ?_ (refl s)
  split <;> first | exact (stepConfirmed _ _).trans (timingAnswer _ _) | exact stepConfirmed _ _

theorem activeAnswer (s : State) (c : Slot) (b : Bool) : PlantStep s (s.activeAnswer c b) :=
  ite (decideExit _ _ _ _) (withCtx fun _ _ => by
    split
    · exact settingAnswer _ _
    · exact timingAnswer _ _
    · exact refl s)

theorem exitAnswer (s : State) (c : Slot) (b : Bool) : PlantStep s (s.exitAnswer c b) := withCtx fun _ _ => by
  split
  · exact refl s
  · exact ite (convertExit _ _) (ite (endExit _ _ _) (refl s))

theorem sequencerAnswer (s : State) (c : Slot) (b : Bool) : PlantStep s (s.sequencerAnswer c b) := withCtx fun w _ => by
  dsimp only
  split
  · exact (setCtx s c _).trans (activeAnswer _ _ _)
  · exact (setCtx s c _).trans (exitAnswer _ _ _)
  · exact setCtx s c _

theorem ripenUnmet (s : State) (c : Slot) : PlantStep s (s.ripenUnmet c) := by
  unfold State.ripenUnmet
  dsimp only
  refine (modCtx s c _).trans (withCtx fun _ _ => ite ?_ (endStep _ _))
  exact ((subtractStep _ c).trans (markWashed _ c)).trans (withCtx fun _ _ => decideExitAs _ _ _ _ _ _)

/-! ### Admission unit -/

theorem drawIf (s : State) (b : Bool) : PlantStep s (s.drawIf b) :=
  ite (of_eq rfl rfl rfl rfl rfl rfl rfl rfl rfl rfl rfl) (refl s)

theorem passEntry (s : State) (e : QueueEntry) : PlantStep s (s.passEntry e) :=
  ite (ite ((drawIf _ _).trans (startMovement _ _ _)) (drawIf _ _)) (refl s)

theorem isolationPass (s : State) : PlantStep s s.isolationPass := foldl passEntry _ _

theorem shedOne (s : State) (x : Slot × ExitKind) : PlantStep s (s.shedOne x) :=
  (shedAdd _ _).trans (withCtx fun _ _ => decideExitAs _ _ _ _ _ _)

theorem shedding (s : State) : PlantStep s s.shedding := ite (foldl shedOne _ _) (refl s)

theorem takeToWash (s : State) (f : FilterId) : PlantStep s (s.takeToWash f) := (modFilter _ _ _).trans (changeState _ _ _)

theorem commit (s : State) (x : ProfileCopy) : PlantStep s (s.commit x) := of_eq rfl rfl rfl rfl rfl rfl rfl rfl rfl rfl rfl

theorem noteAdmission (s : State) (f : FilterId) : PlantStep s (s.noteAdmission f) := of_eq rfl rfl rfl rfl rfl rfl rfl rfl rfl rfl rfl

theorem admitFilter (s : State) (f : FilterId) (c : Slot) (n : Nat) (l : List ProfileStep) : PlantStep s (s.admitFilter f c n l) := by
  unfold State.admitFilter
  dsimp only
  exact (((((removeEntry s f).trans (takeToWash _ f)).trans (commit _ _)).trans (setCtx _ c _)).trans (noteAdmission _ _)).trans
    ((raise _ _ _).trans (beginStep _ _ _))

theorem walk (s : State) : PlantStep s s.walk := by
  unfold State.walk
  split
  · exact setCheck _ _
  · split
    · exact admitFilter _ _ _ _ _
    · exact refl s

theorem admissionCheck (s : State) : PlantStep s s.admissionCheck := by
  unfold State.admissionCheck
  split
  · exact setCheck _ _
  · exact walk s

theorem admissionUnit (s : State) : PlantStep s s.admissionUnit := by
  unfold State.admissionUnit
  split
  · exact setCheck _ _
  · exact (isolationPass s).trans (setCheck _ _)
  · exact ((isolationPass s).trans (shedding _)).trans (setCheck _ _)
  · exact ((isolationPass s).trans (shedding _)).trans (admissionCheck _)

/-! ### Filter answers -/

theorem watchVolumes (s : State) : PlantStep s s.watchVolumes :=
  ((drawIf _ _).trans (raiseIf _ _ _)).trans (raiseIf _ _ _)

theorem toUnknown (s : State) (f : FilterId) : PlantStep s (s.toUnknown f) := (modFilter _ _ _).trans (changeState _ _ _)

theorem orphanWash (s : State) (f : FilterId) (x : FaultCause) (o : WashOutcome) : PlantStep s (s.orphanWash f x o) := by
  unfold State.orphanWash
  split
  · exact orphan _ _ _ _
  · exact refl s

theorem filterLost (s : State) (f : FilterId) : PlantStep s (s.filterLost f) := by
  unfold State.filterLost
  dsimp only
  refine (modFilter _ _ _ : PlantStep s (s.markStale f)).trans ?_
  split
  · exact toUnknown _ _
  · exact toUnknown _ _
  · exact toUnknown _ _
  · exact modFilter _ _ _
  · exact ite (toUnknown _ _) (refl _)
  · exact (toUnknown _ _).trans (orphanWash _ _ _ _)
  · exact refl _

theorem localSwitch (s : State) (f : FilterId) : PlantStep s (s.localSwitch f) := by
  unfold State.localSwitch
  refine ite (refl s) ?_
  split
  all_goals first
    | exact takeLocal _ _
    | exact ite (refl s) (takeLocal _ _)
    | exact (takeLocal _ _).trans (orphanWash _ _ _ _)
    | exact refl s

theorem classify (s : State) (f : FilterId) (w : BitVec 16) (a b : Bool) : PlantStep s (s.classify f w a b) :=
  ite (surveyOfOne _ _ _ _) (ite (surveyOfOne _ _ _ _) (refl s))

theorem lostEvent (s : State) (n : NodeId) : PlantStep s (s.lostEvent n) := by
  cases n
  · exact filterLost _ _
  · exact supplyLost _ _
  · exact supplyLost _ _
  · exact refl s

theorem storeInput (s : State) (f : FilterId) (i : FilterInput) : PlantStep s (s.storeInput f i) := by
  unfold State.storeInput
  exact ite (setFnode _ _ _) ((setFnode _ _ _).trans (raise _ _ _))

theorem viewAnswer (s : State) (f : FilterId) (i : FilterInput) : PlantStep s (s.viewAnswer f i) := modFilter _ _ _

theorem filterTable (s : State) (f : FilterId) (i : FilterInput) (a b : Bool) : PlantStep s (s.filterTable f i a b).1 := by
  unfold State.filterTable
  exact (((((ite (localSwitch _ _) (refl s)).trans (viewAnswer _ f i)).trans (movementAnswer _ f)).trans
    (classify _ f i.word a b)).trans (watchDrift _ f)).trans (watchTrip _ f i.word)

theorem washAnswer (s : State) (f : FilterId) (b : Bool) : PlantStep s (s.washAnswer f b) := by
  unfold State.washAnswer
  split
  · exact refl s
  · exact ((releaseHoldings _ _).trans (testOrphan _ _)).trans (sequencerAnswer _ _ _)

theorem takeTotal (s : State) (f : FilterId) (v : BitVec 32) (b : Bool) : PlantStep s (s.takeTotal f v b) := modFilter _ _ _

end PlantStep

end Sys2Proof.Machine
end

