-- ==== Sys2Proof/Laws/Sequencer.lean ====
section
/-! SUPPORT. What the shared operations of a wash do, once for each: the gate on a running part, the elapsed-time test, the
context in a slot, the headers of a step, the exit decision, and the gates of an admission. -/

namespace Sys2Proof.Machine

/-! ### Power, time -/

theorem State.whenRunning_of_running {s : State} (h : s.mc.power = .running) (g : State → State) : s.whenRunning g = g s := by
  simp [State.whenRunning, State.running, h]

theorem State.whenRunning_of_halted {s : State} (h : s.mc.power ≠ .running) (g : State → State) : s.whenRunning g = s := by
  simp [State.whenRunning, State.running, h]

theorem State.expired_iff (s : State) (start : Seconds) (limit : Nat) :
    s.expired start limit = true ↔ limit ≤ (s.mc.seconds - start).toNat := decide_eq_true_iff

/-! ### Contexts -/

theorem State.withCtx_some {s : State} {c : Slot} {w : WashContext} (h : s.ctx c = some w) (g : WashContext → State) :
    s.withCtx c g = g w := by
  simp [State.withCtx, h]

theorem State.withCtx_none {s : State} {c : Slot} (h : s.ctx c = none) (g : WashContext → State) : s.withCtx c g = s := by
  simp [State.withCtx, h]

theorem State.modCtx_some {s : State} {c : Slot} {w : WashContext} (h : s.ctx c = some w) (g : WashContext → WashContext) :
    s.modCtx c g = s.setCtx c (some (g w)) := by
  simp [State.modCtx, h]

theorem State.setCtx_ctx_same (s : State) (c : Slot) (w : Option WashContext) : (s.setCtx c w).ctx c = w := by
  simp [State.setCtx, State.ctx]

theorem State.setCtx_ctx_other (s : State) {c d : Slot} (h : d ≠ c) (w : Option WashContext) :
    (s.setCtx c w).ctx d = s.ctx d := by
  have hv : c.val ≠ d.val := fun e => h (Fin.ext e.symm)
  simp [State.setCtx, State.ctx, Vector.getElem_set_ne _ _ hv]

/-- A slot that the filter's wash stands in. -/
theorem State.slotNaming_names {s : State} {f : FilterId} {c : Slot} (h : s.slotNaming f = some c) :
    ∃ w, s.ctx c = some w ∧ w.filter = f := by
  have hp := List.find?_some h
  cases hc : s.ctx c with
  | none => simp [hc] at hp
  | some w => exact ⟨w, rfl, by simpa [hc] using hp⟩

/-! ### Headers (R78, R94) -/

/-- Headers that a context holds already are passed. -/
theorem State.tryHeaders_held {s : State} {c : Slot} {held : List Header} (h : ∀ x ∈ held, s.holds c x = true)
    (rest : List Header) : s.tryHeaders c (held ++ rest) = s.tryHeaders c rest := by
  induction held with
  | nil => rfl
  | cons x xs ih =>
    show s.tryHeaders c (x :: (xs ++ rest)) = _
    rw [State.tryHeaders, if_pos (h x (List.mem_cons_self ..)), ih fun y hy => h y (List.mem_cons_of_mem _ hy)]

/-- With every header held a context enters SETTING. -/
theorem State.tryHeaders_all {s : State} {c : Slot} {l : List Header} (h : ∀ x ∈ l, s.holds c x = true) :
    s.tryHeaders c l = s.enterSetting c := by
  have := State.tryHeaders_held h []
  rwa [List.append_nil] at this

/-- A header whose node is LOST decides an exit. -/
theorem State.tryHeaders_lost {s : State} {c : Slot} {h : Header} (n : s.holds c h = false)
    (lost : s.supplyNodeLost h = true) (rest : List Header) :
    s.tryHeaders c (h :: rest) = s.decideExit c (some .supplyLost) none := by
  simp [State.tryHeaders, n, lost]

/-- A header with room is granted, and the next one asked for. -/
theorem State.tryHeaders_room {s : State} {c : Slot} {h : Header} (n : s.holds c h = false)
    (lost : s.supplyNodeLost h = false) (room : s.hasRoom h = true) (rest : List Header) :
    s.tryHeaders c (h :: rest) = (s.addHolding c h).tryHeaders c rest := by
  simp [State.tryHeaders, n, lost, room]

/-- A full header is waited for. -/
theorem State.tryHeaders_full {s : State} {c : Slot} {h : Header} (n : s.holds c h = false)
    (lost : s.supplyNodeLost h = false) (room : s.hasRoom h = false) (rest : List Header) :
    s.tryHeaders c (h :: rest) = s.addWaiter c h := by
  simp [State.tryHeaders, n, lost, room]

/-- The beginning of a step: the context's fields, and then the headers of the step. -/
theorem State.beginStep_of_ctx {s : State} {c : Slot} {w : WashContext} (h : s.ctx c = some w) (i : Nat) :
    s.beginStep c i =
      let v : WashContext := { w with
        stepIndex := i, phase := .acquire, stepStart := s.now, phaseStart := s.now, fallbackUsed := false, answered := false }
      (s.setCtx c (some v)).tryHeaders c v.needs := by
  unfold State.beginStep
  rw [State.modCtx_some h]
  exact State.withCtx_some (State.setCtx_ctx_same ..) _

/-! ### Exit decisions (R126, R127) -/

/-- An exit is decided for an ACTIVE context only. -/
theorem State.decideExit_active {s : State} {c : Slot} {w : WashContext} (h : s.ctx c = some w) (a : w.state = .active)
    (cause : Option FaultCause) (valve : Option Valve) :
    s.decideExit c cause valve = s.decideExitAs c w (exitKindFor w.progress cause) cause valve := by
  unfold State.decideExit
  rw [State.withCtx_some h, if_pos a]

theorem State.decideExit_inactive {s : State} {c : Slot} (h : ∀ w, s.ctx c = some w → w.state ≠ .active)
    (cause : Option FaultCause) (valve : Option Valve) : s.decideExit c cause valve = s := by
  cases hc : s.ctx c with
  | none => exact State.withCtx_none hc _
  | some w =>
    unfold State.decideExit
    rw [State.withCtx_some hc, if_neg (h w hc)]

/-- A TRIP exits SAFE from any mark. -/
theorem exitKindFor_trip (p : Progress) : exitKindFor p (some .trip) = .safeExit := rfl

/-- Any other cause exits by the mark. -/
theorem exitKindFor_mark (p : Progress) {cause : Option FaultCause} (h : cause ≠ some .trip) :
    exitKindFor p cause = match p with
      | .none => .returnExit
      | .airwaterBegun => .safeExit
      | .washed => .lateExit := by
  cases p <;> simp [exitKindFor, h]

/-! ### The gates of an admission (R52, R53, R55) -/

theorem State.slotGate_iff (s : State) :
    s.slotGate = true ↔ (∃ c, s.ctx c = none) ∧ s.busySlots < s.plant.maxOut := by
  simp [State.slotGate, allSlots, Option.isNone_iff_eq_none]

theorem State.floorGate_iff (s : State) :
    s.floorGate = true ↔ s.au.breach = false ∧ s.au.required + s.isolatingCount + 1 ≤ s.serviceCount := by
  simp [State.floorGate]

theorem State.supplyGate_iff (s : State) :
    s.supplyGate = true ↔ (s.link .washWater).lost = false ∧ (s.link .waste).lost = false := by
  simp [State.supplyGate, State.isLost]

theorem State.spacingGate_iff (s : State) :
    s.spacingGate = true ↔
      ∀ t, s.au.lastAdmission = some t → s.plant.rotationSpacing ≤ (s.mc.seconds - t).toNat := by
  unfold State.spacingGate
  cases s.au.lastAdmission <;> simp [State.expired_iff]

theorem State.startable_iff (s : State) (f : FilterId) :
    s.startable f = true ↔ ((s.filter f).state = .service ∨ (s.filter f).state = .held) ∧ (s.filter f).trip = none ∧
      (s.filter f).drift = false ∧ (s.link (.filter f)).lost = false := by
  simp [State.startable, State.queueable, State.isLost, and_assoc, Option.isNone_iff_eq_none]

theorem State.volumeTest_iff (s : State) (steps : List ProfileStep) :
    s.volumeTest steps = true ↔
      ∃ tr br, s.plant.tankReserve = some tr ∧ s.plant.basinReserve = some br ∧
        (s.tankAvailable : Int) - s.ra.tankTotal ≥ ((waterDemand steps + tr : Nat) : Int) ∧
        (s.basinFree : Int) - s.ra.basinTotal ≥ ((wasteDemand s.plant.ftwRate steps + br : Nat) : Int) := by
  unfold State.volumeTest
  cases s.plant.tankReserve <;> cases s.plant.basinReserve <;> simp

end Sys2Proof.Machine
end

