-- ==== Sys2Proof/WellFormed.lean ====
section
/-! DEFINITION. When a term of `Instr` is the command its row names: the operands are ones the row's
event can carry. A meaning is total on every term; on a term that is not well formed it does what the
bytes say, or nothing (log 1, 29, 36, 38). -/

namespace Sys2Proof

/-- The body of a host frame has at most 240 bytes (R160). -/
def bodyFits (body : List Byte) : Bool := body.length ≤ 240

/-- An answer whose CRC is correct and whose healthy flag is set (R145). -/
def answerSound (a : Answer) : Bool := Machine.answerCrcOk a && Machine.statusHealthy a.status

/-- The check on a command. -/
def Instr.wellFormed : Instr → Bool
  | .powerOn _ | .rstnTaken | .pinReset _ | .plantSecond | .flowReportTimeout => true
  | .movementTravelLimit _ | .headerWaitLimit _ | .settingTravelLimit _ | .startConfirmExpiry _ _ => true
  | .rampWindowExpiry _ | .stepDurationExpiry _ | .ripenMaximumDuration _ | .holdPointLimit _ => true
  | .exitTravelExpiry _ | .scanPeriodExpiry | .poll | .missingAnswer | .attnRetriggerGapEnd => true
  | .filterInputAnswer a =>
    answerSound a && (1 ≤ a.addr.toNat && a.addr.toNat ≤ 20) && (a.code = 1 || a.code = 2) && a.payload.length = 8
  | .filterTotalizerAnswer a =>
    answerSound a && (1 ≤ a.addr.toNat && a.addr.toNat ≤ 20) && (a.code = 3 || a.code = 4) && a.payload.length = 4
  | .supplyNodeAnswer a =>
    answerSound a && (a.code = 1 || a.code = 2) &&
      (a.addr = 21 && a.payload.length = 5 || a.addr = 22 && a.payload.length = 3 ||
        a.addr = 23 && a.code = 1 && a.payload.length = 3)
  | .frameGap _ | .frameInBusy | .replySent | .storeWriteComplete | .syncByteInHunt | .powerLoss => true
  | .frameLengthOver240 length => 240 < length.toNat
  | .frameCrcError kind body crc => bodyFits body && crc != Machine.frameCrc kind body
  | .unknownKind kind body => bodyFits body && (kind.toNat = 0 || 0x21 < kind.toNat)
  | .clearTrip rest | .clearDrift rest | .clearHeldCondition rest => rest.length < 240
  | .clearUnit body => bodyFits body && (body.head? != some 0 && body.head? != some 1 && body.head? != some 2)
  | .ident body | .status body | .flow body | .filterRead body | .queueRead body | .contextRead body => bodyFits body
  | .resourceRead body | .nodeRead body | .nodeClear body | .recordRead body | .noticeRead body => bodyFits body
  | .noticeAck body | .noticeEnable body | .mode body | .wash body | .cancel body | .start body => bodyFits body
  | .continueWash body | .release body | .isolate body | .free body | .tune body | .exit body => bodyFits body
  | .profileWrite body | .profileRead body | .filterConfig body | .plantConfig body => bodyFits body
  | .configRead body | .commit body | .discard body | .restart body | .patternRead body => bodyFits body

end Sys2Proof
end

