-- ==== Sys2Proof/Tests/Slice0.lean ====
section
/-! SUPPORT. The model's own tests: the well-formedness checks, the CRC, small steps of the commands, and for every obligation with
hypotheses a concrete state and operands that meet them. -/

namespace Sys2Proof.Tests

open Sys2Proof.Machine Sys2Proof.Claim

/-! ### Helpers -/

/-- The state after a command. -/
def after (i : Instr) (s : State) : State :=
  match exec i s with
  | .next t => t
  | _ => s

/-- The kind byte and the body of the reply frame in the reply buffer. -/
def reply (s : State) : Byte × List Byte :=
  (s.hlu.txBuffer.getD 2 0, (s.hlu.txBuffer.drop 3).take ((s.hlu.txBuffer.getD 1 0).toNat))

/-- A profile of three steps: DRAIN, WATER with a fallback and a hold point, RIPEN. -/
def profile : List ProfileStep :=
  [⟨.drain, 20, 0, 0, 500, false⟩, ⟨.water, 10, 100, 50, 0, true⟩, ⟨.ripen, 30, 0, 0, 0, false⟩]

/-- The settings of every filter. -/
def settings : FilterSettings := ⟨0, 100, 50, 20, 1, 0, true⟩

/-- A valid working configuration for three filters. -/
def config : WorkingConfig :=
  { WorkingConfig.defaults with
    plant := { PlantConfig.defaults with
      filterCount := 3, maxFilterFlow := some 100, fallbackFlow := some 100, tankReserve := some 10
      basinReserve := some 10, tankThreshold := some 0, basinThreshold := some 0 }
    filters := Vector.replicate 20 ⟨some settings, 0, 0x1000⟩
    profiles := (Vector.replicate 8 defaultProfile).set 0 profile }

/-- The part in HOLD at 1000 s, filters 1 to 3 in SERVICE, no scan in progress. -/
def hold : State :=
  { State.reset with
    mc := { State.reset.mc with mode := .hold, seconds := 1000 }
    cs := { store := none, writing := none, working := config }
    gbm := { State.reset.gbm with
      settings := ⟨3, 250, 4, 4⟩, cursor := some 0, phase := .idle
      washNode := { WashNode.reset with input := some ⟨false, false, 0, 500⟩ }
      wasteInput := some ⟨500, false⟩ }
    ft := { records := Vector.ofFn fun f =>
      if f.val < 3 then { FilterRecord.reset .service with commanded := some .service } else FilterRecord.reset .unused }
    au := { State.reset.au with required := 1 }
    nu := NoticeUnit.reset }

/-- As `hold`, in another mode. -/
def inMode (m : PartMode) : State := { hold with mc := { hold.mc with mode := m } }

/-- As `hold`, with the record of filter 1 changed. -/
def withFirst (g : FilterRecord → FilterRecord) : State := hold.modFilter 0 g

/-- The wash of filter 1, admitted at 900 s, in DRAIN. -/
def wash : WashContext := newContext 0 ⟨0, .host, CauseSet.single .host, 900⟩ (copyProfile 0 60 profile) 900 false

/-- As `hold`, with filter 1 in WASH and its wash in slot 0. -/
def washing (w : WashContext) : State :=
  { withFirst fun r => { r with state := .wash, commanded := some .drain } with
    ss := { contexts := (Vector.replicate 4 none).set 0 (some w) }
    ra := { ResourceUnit.reset with tankTotal := 1, basinTotal := 3 } }

/-- As `washing`, with headers held by slot 0. -/
def holding (w : WashContext) (a b f : List Holding) : State :=
  { washing w with ra := { (washing w).ra with headers := ⟨⟨a, []⟩, ⟨b, []⟩, ⟨f, []⟩⟩ } }

/-- As `hold`, with the answer of a node awaited. -/
def awaiting (n : NodeId) (code : PollCode) : State := { hold with gbm := { hold.gbm with phase := .awaiting n code } }

/-- A sound answer. -/
def answer (addr code : Byte) (payload : List Byte) : Answer :=
  ⟨addr, code, 1, payload, crc16 (addr :: code :: 1 :: payload)⟩

/-- The input word with filter 1's valves confirmed in SERVICE. -/
def serviceWord : List Byte := [0x0A, 0xA5]

theorem ready_hold : Ready hold := ⟨rfl, by decide⟩

theorem ready_mode (m : PartMode) : Ready (inMode m) := ⟨rfl, show Receiver.hunt ≠ .busy by decide⟩

theorem ready_washing (w : WashContext) : Ready (washing w) := ⟨rfl, show Receiver.hunt ≠ .busy by decide⟩

theorem operable_hold : Operable hold := ⟨ready_hold, Or.inl rfl⟩

/-! ### Well-formedness -/

/-- The answers that each check on an answer refuses. -/
theorem test_answers_ill_formed :
    (Instr.filterInputAnswer { answer 1 1 (List.replicate 8 0) with crc := 0 }).wellFormed = false ∧
    (Instr.filterInputAnswer ⟨1, 1, 0, List.replicate 8 0, crc16 ([1, 1, 0] ++ List.replicate 8 0)⟩).wellFormed = false ∧
    (Instr.filterInputAnswer (answer 21 1 (List.replicate 8 0))).wellFormed = false ∧
    (Instr.filterInputAnswer (answer 1 3 (List.replicate 8 0))).wellFormed = false ∧
    (Instr.filterInputAnswer (answer 1 1 (List.replicate 4 0))).wellFormed = false ∧
    (Instr.filterTotalizerAnswer (answer 0 3 (List.replicate 4 0))).wellFormed = false ∧
    (Instr.filterTotalizerAnswer (answer 1 1 (List.replicate 4 0))).wellFormed = false ∧
    (Instr.filterTotalizerAnswer (answer 1 3 (List.replicate 8 0))).wellFormed = false ∧
    (Instr.supplyNodeAnswer (answer 20 1 (List.replicate 5 0))).wellFormed = false ∧
    (Instr.supplyNodeAnswer (answer 21 3 (List.replicate 5 0))).wellFormed = false ∧
    (Instr.supplyNodeAnswer (answer 22 1 (List.replicate 5 0))).wellFormed = false ∧
    (Instr.supplyNodeAnswer (answer 23 2 (List.replicate 3 0))).wellFormed = false := by decide +kernel

/-- Sound answers pass. -/
theorem test_answers_well_formed :
    (Instr.filterInputAnswer (answer 20 2 (List.replicate 8 0))).wellFormed = true ∧
    (Instr.filterTotalizerAnswer (answer 1 4 (List.replicate 4 0))).wellFormed = true ∧
    (Instr.supplyNodeAnswer (answer 21 2 (List.replicate 5 0))).wellFormed = true ∧
    (Instr.supplyNodeAnswer (answer 22 1 (List.replicate 3 0))).wellFormed = true ∧
    (Instr.supplyNodeAnswer (answer 23 1 (List.replicate 3 0))).wellFormed = true := by decide +kernel

/-- The frames that the checks on link events refuse. -/
theorem test_frames_ill_formed :
    (Instr.frameLengthOver240 240).wellFormed = false ∧
    (Instr.frameCrcError 1 [] (frameCrc 1 [])).wellFormed = false ∧
    (Instr.frameCrcError 1 (List.replicate 241 0) 0).wellFormed = false ∧
    (Instr.unknownKind 0x21 []).wellFormed = false ∧ (Instr.unknownKind 0 (List.replicate 241 0)).wellFormed = false ∧
    (Instr.clearTrip (List.replicate 240 0)).wellFormed = false ∧
    (Instr.clearDrift (List.replicate 240 0)).wellFormed = false ∧
    (Instr.clearHeldCondition (List.replicate 240 0)).wellFormed = false ∧
    (∀ b ∈ [(0 : Byte), 1, 2], (Instr.clearUnit [b, 1]).wellFormed = false) := by decide +kernel

/-- Every request refuses a body of 241 bytes, and takes one of 240. -/
theorem test_bodies_ill_formed :
    ∀ g ∈ [Instr.ident, .status, .flow, .filterRead, .queueRead, .contextRead, .resourceRead, .nodeRead, .nodeClear] ++
      [Instr.recordRead, .noticeRead, .noticeAck, .noticeEnable, .mode, .wash, .cancel, .start, .continueWash, .release] ++
      [Instr.isolate, .free, .tune, .exit, .profileWrite, .profileRead, .filterConfig, .plantConfig, .configRead] ++
      [Instr.commit, .discard, .restart, .patternRead],
      (g (List.replicate 241 3)).wellFormed = false ∧ (g (List.replicate 240 3)).wellFormed = true := by decide +kernel

/-! ### CRC, reset -/

/-- The CRC of R161 over the nine digits, its well-known check value. -/
theorem test_crc : crc16 [0x31, 0x32, 0x33, 0x34, 0x35, 0x36, 0x37, 0x38, 0x39] = 0x29B1#16 := by decide +kernel

/-- The first power-on of a blank part gives `State.reset`. -/
theorem test_power_on : after (.powerOn false) { State.reset with mc := { hold.mc with power := .off } } = State.reset := by
  decide +kernel

/-- With a valid store the part enters SURVEY with the store's filters UNKNOWN and a scan due. -/
theorem test_pin_reset :
    let t := after (.pinReset true) { hold with cs := { hold.cs with store := some config } }
    t.mc.mode = .survey ∧ (t.filter 2).state = .unknown ∧ (t.filter 3).state = .unused ∧ t.hlu.fastLink = true ∧
      t.mc.seconds = 0 ∧ t.gbm.phase = .due (.filter 0) ∧ t.nu.attnDriven = false ∧ t.au.required = 1 := by decide +kernel

/-! ### The machine, power, link -/

/-- What a test looks at in the power and the store. -/
structure PowerLook where
  power   : Power
  store   : Option WorkingConfig
  writing : Option WorkingConfig
deriving DecidableEq, Repr

/-- The look at the power and the store. -/
def powerLook (t : State) : PowerLook := ⟨t.mc.power, t.cs.store, t.cs.writing⟩

/-- `StepRunsFrontCommand`: an empty queue, and a step on a queue of two. -/
theorem witness_StepRunsFrontCommand :
    State.reset.pending = [] ∧
      step { hold with pending := [.plantSecond, .poll] } =
        .next { after .plantSecond hold with pending := [.poll] } := ⟨rfl, rfl⟩

/-- `EveryCommandGoesOn`: no poll is due. -/
theorem witness_EveryCommandGoesOn : ∀ n, hold.gbm.phase ≠ .due n := fun n => show ScanPhase.idle ≠ .due n by nofun

/-- `HaltedPartTakesNothing`: RSTN held with a poll waiting, VDD absent, and a running part. -/
theorem witness_HaltedPartTakesNothing :
    (after .rstnTaken hold).mc.power = .held ∧ (∀ h, Instr.poll ≠ .powerOn h) ∧ (∀ h, Instr.poll ≠ .pinReset h) ∧
      Instr.poll ≠ .powerLoss ∧ (after .powerLoss hold).mc.power = .off ∧ Running hold :=
  ⟨rfl, nofun, nofun, nofun, rfl, rfl⟩

/-- GDE is active while an answer is awaited; it is inactive otherwise, and while RSTN is held. -/
theorem test_gde :
    (awaiting .waste .readIo).gdeActive = true ∧ hold.gdeActive = false ∧
      (after .rstnTaken (awaiting .waste .readIo)).gdeActive = false ∧ Running (awaiting .waste .readIo) ∧
      (after .rstnTaken hold).mc.power ≠ .running := by
  unfold Running
  decide +kernel

/-- A store write that RSTN cuts leaves a bad CRC, and a poll while RSTN is held does nothing. -/
theorem test_rstn_cuts_store_write :
    let s := { inMode .setup with cs := { store := some config, writing := some config, working := config } }
    powerLook (after .rstnTaken s) = ⟨.held, none, none⟩ ∧ powerLook (after .powerLoss s) = ⟨.off, none, none⟩ ∧
      after .poll (after .rstnTaken s) = after .rstnTaken s := by decide +kernel

/-- `ResetsGiveEveryBlockItsValues`. -/
theorem witness_ResetsGiveEveryBlockItsValues : hold.mc.power ≠ .off := show Power.running ≠ .off by decide

/-- The receiver is BUSY, a RESTART waiting or not. -/
def busy (restart : Bool) : State :=
  { hold with hlu := { hold.hlu with receiver := .busy, txBuffer := [0xA5], restartPending := restart } }

/-- `BusyReceiverDiscards`. -/
theorem witness_BusyReceiverDiscards : (busy false).hlu.receiver = .busy ∧ request (.ident []) = some (.ident, []) := ⟨rfl, rfl⟩

/-- The receiver has begun a frame. -/
def begun : State := after .syncByteInHunt hold

/-- `BadFramesAreDiscarded`: both receiver states, the first length above 240, a wrong CRC. -/
theorem witness_BadFramesAreDiscarded :
    Running begun ∧ hold.hlu.receiver = .hunt ∧ begun.hlu.receiver = .receiving ∧ (0x00 : Byte) ≠ 0xA5 ∧
      240 < (241 : Byte).toNat ∧ begun.hlu.receiver ≠ .busy ∧ (0 : BitVec 16) ≠ frameCrc 1 [] :=
  ⟨rfl, rfl, rfl, by decide, by decide, show Receiver.receiving ≠ .busy by decide, by decide +kernel⟩

/-- What a test looks at in the receiver. -/
structure LinkLook where
  receiver : Receiver
  received : Nat
deriving DecidableEq, Repr

/-- The look at the receiver after a command while a frame has begun. -/
def linkLook (i : Instr) : LinkLook := ⟨(after i begun).hlu.receiver, (after i begun).hlu.rxBuffer.length⟩

/-- A gap that ends in A5h starts a frame; another byte, an overlong frame and a wrong CRC end in HUNT; 240 is not overlong. -/
theorem test_receiver :
    linkLook (.frameGap 0xA5) = ⟨.receiving, 0⟩ ∧ linkLook (.frameGap 0) = ⟨.hunt, 0⟩ ∧
      linkLook (.frameLengthOver240 241) = ⟨.hunt, 0⟩ ∧ linkLook (.frameLengthOver240 240) = ⟨.receiving, 0⟩ ∧
      linkLook (.frameCrcError 1 [] 0) = ⟨.hunt, 0⟩ ∧ linkLook .frameInBusy = ⟨.receiving, 0⟩ := by decide +kernel

/-- `RequestsAreTestedInOrder`: the kinds at the edges of the table, a body above 240, a wrong length, a mode that does not
accept the kind. -/
theorem witness_RequestsAreTestedInOrder :
    Ready hold ∧ ([] : List Byte).length ≤ 240 ∧ ((0 : Byte).toNat = 0 ∨ 0x21 < (0 : Byte).toNat) ∧
      ((0x22 : Byte).toNat = 0 ∨ 0x21 < (0x22 : Byte).toNat) ∧
      request (.start (List.replicate 241 0)) = some (.start, List.replicate 241 0) ∧
      240 < (List.replicate 241 (0 : Byte)).length ∧ request (.clearTrip []) = some (.clear, [0]) ∧
      ([0] : List Byte).length ≠ Kind.clear.bodyLength [0] ∧ ([1] : List Byte).length = Kind.start.bodyLength [1] ∧
      Kind.start.accepted (inMode .auto).mc.mode = false := by
  refine ⟨ready_hold, ?_⟩
  decide +kernel

/-- Refusals UNKNOWN-KIND, LENGTH and MODE, and RANGE for a filter 0 and 21. -/
theorem test_refusals :
    reply (after (.unknownKind 0x22 []) hold) = (0xFF, [0x22, 1, 0]) ∧
      reply (after (.clearTrip []) hold) = (0xFF, [0x16, 2, 0]) ∧
      reply (after (.start [1]) (inMode .auto)) = (0xFF, [0x11, 4, 0]) ∧
      (∀ b ∈ [(0 : Byte), 21], reply (after (.wash [b]) hold) = (0xFF, [0x0F, 3, 0])) ∧
      (after (.ident (List.replicate 241 0)) hold).hlu.receiver = .hunt := by decide +kernel

/-- `ReplySentAndRestart`: a reply being sent, with and without a RESTART, and none. -/
theorem witness_ReplySentAndRestart :
    Ready hold ∧ Running (busy false) ∧ (busy true).hlu.receiver = .busy ∧ (busy true).hlu.txBuffer ≠ [] ∧
      (busy true).hlu.restartPending = true ∧ (busy false).hlu.restartPending = false ∧ hold.hlu.txBuffer = [] :=
  ⟨ready_hold, rfl, rfl, show [(0xA5 : Byte)] ≠ [] by decide, rfl, rfl, rfl⟩

/-- RESTART resets when its reply has been sent; plant seconds stay, and the wash in progress is recorded. -/
theorem test_restart :
    let t := after .replySent (after (.restart []) (washing wash))
    (after (.restart []) (washing wash)).ctx 0 = some wash ∧ t.mc.seconds = 1000 ∧ t.ctx 0 = none ∧ t.mc.mode = .setup ∧
      t.wr.records.map (fun r => (r.outcome, r.cause, r.filter)) =
        [(.resetInterrupted, some .resetInterrupted, 0)] := by decide +kernel

/-- SETUP with a valid working configuration, and with the defaults. -/
def setupDefaults : State := { inMode .setup with cs := { hold.cs with working := WorkingConfig.defaults } }

/-- `CommitWritesTheStore`. -/
theorem witness_CommitWritesTheStore :
    Ready (inMode .setup) ∧ (inMode .setup).mc.mode = .setup ∧ failingItem (inMode .setup).cs.working = none ∧
      failingItem setupDefaults.cs.working = some 1 ∧ (after (.commit []) (inMode .setup)).cs.writing = some config ∧
      hold.cs.writing = none := by
  refine ⟨ready_mode _, ?_⟩
  decide +kernel

/-- COMMIT replies at the end of the write; the defaults are refused INVALID with item 1. -/
theorem test_commit :
    (after .storeWriteComplete (after (.commit []) (inMode .setup))).cs.store = some config ∧
      reply (after .storeWriteComplete (after (.commit []) (inMode .setup))) = (0x9D, []) ∧
      reply (after (.commit []) setupDefaults) = (0xFF, [0x1D, 10, 1]) := by decide +kernel

/-! ### The clock and the timers -/

/-- What a test looks at in a context. -/
structure Look where
  state : WashState
  phase : Phase
  kind  : Option ExitKind
  cause : Option FaultCause
deriving DecidableEq, Repr

/-- The look of slot 0. -/
def look (t : State) : Option Look := (t.ctx 0).map fun w => ⟨w.state, w.phase, w.exitKind, w.cause⟩

/-- `PlantSecondAdvances`, and the run seconds of filters in SERVICE, at their upper end too. -/
theorem witness_PlantSecondAdvances :
    Running hold ∧ ((after .plantSecond hold).filter 0).runSeconds = 1 ∧
      ((after .plantSecond hold).filter 3).runSeconds = 0 ∧
      ((after .plantSecond (withFirst fun r => { r with runSeconds := 4294967295 })).filter 0).runSeconds = 4294967295 ∧
      (after .plantSecond { hold with mc := { hold.mc with seconds := 0xFFFFFFFF } }).mc.seconds = 0 := by
  refine ⟨rfl, ?_⟩
  decide +kernel

/-- A fresh report whose timeout has, or has not, run out. -/
def flowing (seconds : Nat) : State :=
  { hold with au := { hold.au with fresh := true, arrival := some (hold.mc.seconds - BitVec.ofNat 32 seconds) } }

/-- `FlowIsReportedAndGoesStale`: 20 000 and 20 001, fresh and expired at 120 s, not expired at 119 s, stale. -/
theorem witness_FlowIsReportedAndGoesStale :
    0 < 100 ∧ Ready hold ∧ ((0x4E : Byte).toNat * 256 + (0x20 : Byte).toNat ≤ 20000) ∧
      20000 < (0x4E : Byte).toNat * 256 + (0x21 : Byte).toNat ∧ Running (flowing 120) ∧ (flowing 120).au.fresh = true ∧
      (flowing 120).au.arrival = some 880 ∧ Expired (flowing 120) 880 (flowing 120).plant.flowTimeout ∧
      ¬ Expired (flowing 119) 881 (flowing 119).plant.flowTimeout ∧ hold.au.fresh = false := by
  refine ⟨by decide, ready_hold, ?_⟩
  unfold Running Expired
  decide +kernel

/-- FLOW 250 at 100 for each filter needs three in SERVICE; two more than are there break the floor. -/
theorem test_flow :
    reply (after (.flow [0x00, 0xFA]) hold) = (0x83, [0, 0, 3, 3, 0]) ∧
      reply (after (.flow [0x01, 0xF4]) hold) = (0x83, [0, 0, 5, 3, 1]) ∧
      reply (after (.flow [0x4E, 0x21]) hold) = (0xFF, [0x03, 3, 0]) ∧
      (after .flowReportTimeout (flowing 120)).au.fresh = false ∧
      ((after .flowReportTimeout (flowing 120)).nu.accounts[10]).pending = true := by decide +kernel

/-- Filter 1 moves, its movement having begun some seconds ago. -/
def moving (toService answered : Bool) (seconds : Nat) : State :=
  withFirst fun r => { r with
    pending := some ⟨toService, hold.mc.seconds - BitVec.ofNat 32 seconds, answered⟩
    view := PerValve.all .closed }

/-- `MovementFailsAtTheTravelLimit`. -/
theorem witness_MovementFailsAtTheTravelLimit :
    Running (moving true true 90) ∧ ((moving true true 90).filter 0).pending = some ⟨true, 910, true⟩ ∧
      Expired (moving true true 90) 910 (moving true true 90).plant.travelLimit ∧
      ¬ Expired (moving true true 89) 911 (moving true true 89).plant.travelLimit ∧ (hold.filter 0).pending = none := by
  unfold Running Expired
  decide +kernel

/-- The failed movement names the first valve off its position, or INF without an answer. -/
theorem test_movement_fails :
    let t := after (.movementTravelLimit 0) (moving true true 90)
    let u := after (.movementTravelLimit 0) (moving false false 90)
    (t.filter 0).state = .fault ∧ (t.filter 0).fault = some ⟨.valveTravel, some .inf⟩ ∧
      (u.filter 0).fault = some ⟨.valveTravel, some .inf⟩ ∧ (t.filter 0).commanded = some .service ∧
      after (.movementTravelLimit 0) (moving true true 89) = moving true true 89 := by decide +kernel

/-- A wash in a phase that began some seconds ago. -/
def inPhase (p : Phase) (i : Nat) (seconds : Nat) : WashContext :=
  { wash with
    phase := p, stepIndex := i, phaseStart := 1000 - BitVec.ofNat 32 seconds, stepStart := 1000 - BitVec.ofNat 32 seconds }

/-- `PhaseLimitsDecideExits`: each limit at its last second, the second before, and away from the phase. -/
theorem witness_PhaseLimitsDecideExits :
    InPhase (washing (inPhase .acquire 1 1200)) 0 (inPhase .acquire 1 1200) .acquire ∧
      Expired hold (1000 - 1200) hold.plant.headerWait ∧ ¬ Expired hold (1000 - 1199) hold.plant.headerWait ∧
      InPhase (washing (inPhase .setting 0 90)) 0 (inPhase .setting 0 90) .setting ∧
      Expired hold (1000 - 90) hold.plant.travelLimit ∧ ¬ Expired hold (1000 - 89) hold.plant.travelLimit ∧
      InPhase (washing (inPhase .holdpoint 1 1800)) 0 (inPhase .holdpoint 1 1800) .holdpoint ∧
      Expired hold (1000 - 1800) hold.plant.holdLimit ∧ ¬ Expired hold (1000 - 1799) hold.plant.holdLimit ∧
      (∀ w, ¬ InPhase hold 0 w .acquire) := by
  refine ⟨⟨rfl, rfl, rfl⟩, ?_, ?_, ⟨rfl, rfl, rfl⟩, ?_, ?_, ⟨rfl, rfl, rfl⟩, ?_, ?_, fun w h => nomatch (show none = some w from h.1)⟩ <;>
    (unfold Expired; decide +kernel)

/-- The three limits end in EXITING with their causes. -/
theorem test_phase_limits :
    look (after (.headerWaitLimit 0) (washing (inPhase .acquire 1 1200))) =
        some ⟨.exiting, .acquire, some .returnExit, some .headerWait⟩ ∧
      look (after (.settingTravelLimit 0) (washing (inPhase .setting 0 90))) =
        some ⟨.exiting, .setting, some .returnExit, some .valveTravel⟩ ∧
      look (after (.holdPointLimit 0) (washing { inPhase .holdpoint 1 1800 with progress := .washed })) =
        some ⟨.exiting, .holdpoint, some .lateExit, some .holdLimit⟩ ∧
      after (.holdPointLimit 0) (washing (inPhase .holdpoint 1 1799)) = washing (inPhase .holdpoint 1 1799) := by
  decide +kernel

/-- A wash in RAMPING whose window began some seconds ago. -/
def ramping (i : Nat) (seconds : Nat) : WashContext :=
  { inPhase .ramping i seconds with windowStart := some (1000 - BitVec.ofNat 32 seconds), washSupply := .running .a false }

/-- `RampWindowFallsBackOnce`: at the window's last second and the one before, with a fallback, without, and after it. -/
theorem witness_RampWindowFallsBackOnce :
    Running (washing (ramping 1 90)) ∧ InPhase (washing (ramping 1 90)) 0 (ramping 1 90) .ramping ∧
      (ramping 1 90).windowStart = some 910 ∧ Expired (washing (ramping 1 90)) 910 hold.plant.rampWindow ∧
      ¬ Expired (washing (ramping 1 89)) 911 hold.plant.rampWindow ∧ (ramping 1 90).fallbackFlow ≠ 0 ∧
      (ramping 1 90).fallbackUsed = false ∧ (ramping 0 90).fallbackFlow = 0 ∧
      ({ ramping 1 90 with fallbackUsed := true } : WashContext).fallbackUsed = true := by
  refine ⟨rfl, ⟨rfl, rfl, rfl⟩, ?_⟩
  unfold Expired
  decide +kernel

/-- The fallback flow becomes the setpoint once; the second window ends in FLOW-LOW. -/
theorem test_ramp_window :
    (after (.rampWindowExpiry 0) (washing (ramping 1 90))).gbm.washNode.image.setpoint = 50 ∧
      look (after (.rampWindowExpiry 0) (washing (ramping 1 90))) = some ⟨.active, .ramping, none, none⟩ ∧
      look (after (.rampWindowExpiry 0) (washing { ramping 1 90 with fallbackUsed := true, progress := .airwaterBegun })) =
        some ⟨.exiting, .ramping, some .safeExit, some .flowLow⟩ := by decide +kernel

/-- A wash in STARTING, unit A of a pair in its start some seconds ago. -/
def starting (p : SupplyPair) (tried : UnitSet) (seconds : Nat) : WashContext :=
  (inPhase .starting 1 seconds).setSupply p (.starting .a tried (1000 - BitVec.ofNat 32 seconds))

/-- `StartExpiryTriesTheStandby`: both pairs, the last second and the one before, the standby untried, tried, flagged, an
ACTIVE and an EXITING context. -/
theorem witness_StartExpiryTriesTheStandby :
    (∀ p ∈ [SupplyPair.blowers, .pumps],
      (starting p ⟨true, false⟩ 15).supply p = .starting .a ⟨true, false⟩ 985 ∧
      (starting p ⟨true, true⟩ 14).supply p = .starting .a ⟨true, true⟩ 986 ∧ (hold.unitFaults p).has .b = false) ∧
      (washing (starting .pumps ⟨true, false⟩ 15)).ctx 0 = some (starting .pumps ⟨true, false⟩ 15) ∧
      Running (washing (starting .pumps ⟨true, false⟩ 15)) ∧ Expired hold 985 hold.plant.startConfirm ∧
      ¬ Expired hold 986 hold.plant.startConfirm ∧ (⟨true, false⟩ : UnitSet).has .b = false ∧
      (⟨true, true⟩ : UnitSet).has .b = true ∧ ((hold.setUnitFault .pumps .b true).unitFaults .pumps).has .b = true ∧
      (starting .pumps ⟨true, false⟩ 15).state = .active ∧
      ({ starting .pumps ⟨true, false⟩ 15 with state := .exiting } : WashContext).state ≠ .active := by
  unfold Running Expired
  decide +kernel

/-- What a test looks at in the pumps: the fault flags, node 21's image, the supply of slot 0. -/
structure PumpLook where
  faults : UnitSet
  image  : PumpImage
  supply : Option SupplyState
deriving DecidableEq, Repr

/-- The look at the pumps. -/
def pumpLook (t : State) : PumpLook := ⟨t.ra.pumpFault, t.gbm.washNode.image, (t.ctx 0).map fun w => w.washSupply⟩

/-- Unit A is flagged and B tried; with both tried the wash exits with PUMP-START. -/
theorem test_start_expiry :
    let t := after (.startConfirmExpiry 0 .pumps) (holding (starting .pumps ⟨true, false⟩ 15) [] [⟨0, false⟩] [])
    pumpLook t = ⟨⟨true, false⟩, ⟨false, true, 0⟩, some (.starting .b ⟨true, true⟩ 1000)⟩ ∧
      (t.nu.accounts[11]).pending = true ∧
      look (after (.startConfirmExpiry 0 .pumps) (holding (starting .pumps ⟨true, true⟩ 15) [] [⟨0, false⟩] [])) =
        some ⟨.exiting, .starting, some .returnExit, some .pumpStart⟩ := by decide +kernel

/-- The planned steps of the test profile: DRAIN, WATER with its 1 m3, RIPEN with its 2 m3 of waste. -/
theorem planned_steps (p : Phase) (seconds : Nat) :
    (inPhase p 0 seconds).planned? = some ⟨⟨.drain, 20, 0, 0, 500, false⟩, 0, 0⟩ ∧
      (inPhase p 1 seconds).planned? = some ⟨⟨.water, 10, 100, 50, 0, true⟩, 1, 1⟩ ∧
      (inPhase p 2 seconds).planned? = some ⟨⟨.ripen, 30, 0, 0, 0, false⟩, 0, 2⟩ := ⟨rfl, rfl, rfl⟩

/-- `StepEndsAtItsDuration`: the last second and the one before, a RIPEN step, steps with and without a hold point (their
plans are `planned_steps`). -/
theorem witness_StepEndsAtItsDuration :
    Running (washing (inPhase .timing 0 20)) ∧
      (∀ i, InPhase (washing (inPhase .timing i 20)) 0 (inPhase .timing i 20) .timing) ∧
      Expired hold (1000 - 20) 20 ∧ ¬ Expired hold (1000 - 19) 20 ∧ StepKind.drain ≠ .ripen := by
  refine ⟨rfl, fun _ => ⟨rfl, rfl, rfl⟩, ?_⟩
  unfold Expired
  decide +kernel

/-- DRAIN is followed by WATER, which acquires the wash header at once; WATER by its hold point, with its volumes out of the
commitments and the mark at WASHED. -/
theorem test_step_ends :
    let t := after (.stepDurationExpiry 0) (washing (inPhase .timing 0 20))
    let u := after (.stepDurationExpiry 0) (washing (inPhase .timing 1 10))
    look t = some ⟨.active, .setting, none, none⟩ ∧ t.holds 0 .wash = true ∧ (t.filter 0).commanded = some .water ∧
      look u = some ⟨.active, .holdpoint, none, none⟩ ∧ (u.ctx 0).map (fun w => w.progress) = some .washed ∧
      u.ra.tankTotal = 0 ∧ u.ra.basinTotal = 2 := by decide +kernel

/-- `RipenEndsUnmetAtItsMaximum`: the last second and the one before, another kind, both rewash counts. -/
theorem witness_RipenEndsUnmetAtItsMaximum :
    InPhase (washing (inPhase .timing 2 30)) 0 (inPhase .timing 2 30) .timing ∧ Expired hold (1000 - 30) 30 ∧
      ¬ Expired hold (1000 - 29) 30 ∧ StepKind.water ≠ .ripen ∧ wash.secondAttempt = false ∧
      ({ wash with secondAttempt := true } : WashContext).secondAttempt = true := by
  refine ⟨⟨rfl, rfl, rfl⟩, ?_⟩
  unfold Expired
  decide +kernel

/-- At count 0 RETURN follows; at count 1 a SAFE-EXIT without a cause. -/
theorem test_ripen_unmet :
    let t := after (.ripenMaximumDuration 0) (washing (inPhase .timing 2 30))
    look t = some ⟨.active, .setting, none, none⟩ ∧ (t.ctx 0).map (fun w => (w.stepIndex, w.ripenResult)) = some (3, .unmet) ∧
      look (after (.ripenMaximumDuration 0) (washing { inPhase .timing 2 30 with secondAttempt := true })) =
        some ⟨.exiting, .timing, some .safeExit, none⟩ := by decide +kernel

/-- A wash that exits since some seconds. -/
def exiting (k : ExitKind) (cause : Option FaultCause) (seconds : Nat) : WashContext :=
  { inPhase .timing 1 5 with
    state := .exiting, exitKind := some k, cause := cause, exitStart := some (1000 - BitVec.ofNat 32 seconds)
    stepItems := some ⟨1, some .water, .timing, 5⟩ }

/-- `ExitFailsAtTheTravelLimit`: the last second and the one before, without and with a header held. -/
theorem witness_ExitFailsAtTheTravelLimit :
    let w := exiting .lateExit (some .hostExit) 90
    Running (washing w) ∧ (washing w).ctx 0 = some w ∧ w.state = .exiting ∧ w.exitKind = some .lateExit ∧
      w.exitStart = some 910 ∧ Expired (washing w) 910 hold.plant.travelLimit ∧
      ¬ Expired (washing w) 911 hold.plant.travelLimit ∧ (∀ h ∈ [Header.air, .wash, .ftw], (washing w).holds 0 h = false) ∧
      (holding w [] [⟨0, false⟩] []).holds 0 .wash = true := by
  unfold Running Expired
  decide +kernel

/-- What a test looks at in slot 0 and the newest record. -/
structure SlotLook where
  state   : Option WashState
  outcome : Option WashOutcome
  causes  : List FaultCause
deriving DecidableEq, Repr

/-- The look at slot 0 and the newest record. -/
def slotLook (t : State) : SlotLook :=
  ⟨(t.ctx 0).map fun w => w.state, t.wr.records.head?.map fun r => r.outcome,
    t.wr.records.flatMap fun r => [r.cause, r.secondCause].filterMap id⟩

/-- A failed exit that holds nothing frees its context, one that holds a header leaves an orphan. -/
theorem test_exit_fails :
    let t := after (.exitTravelExpiry 0) (washing (exiting .lateExit (some .hostExit) 90))
    let u := after (.exitTravelExpiry 0) (holding (exiting .lateExit (some .hostExit) 90) [] [⟨0, false⟩] [])
    slotLook t = ⟨none, some .faulted, [.hostExit, .valveTravel]⟩ ∧ (t.filter 0).fault = some ⟨.valveTravel, some .inf⟩ ∧
      slotLook u = ⟨some .orphan, some .faulted, [.hostExit, .valveTravel]⟩ ∧
      u.ra.headers.wash.holdings = [⟨0, true⟩] := by decide +kernel

/-- Two kinds are pending: WASH-START twice for filter 3, and FLOOR. -/
def noticed : State :=
  { hold with nu := { hold.nu with
    accounts := (hold.nu.accounts.set 0 ⟨true, 2, 3⟩).set 5 ⟨true, 1, 0⟩
    attnDriven := true } }

/-- `NoticesAreAcknowledged`: a gap runs, and none does. -/
theorem witness_NoticesAreAcknowledged :
    Ready noticed ∧ (after (.noticeAck [0, 1]) noticed).nu.attnGap = true ∧ Running (after (.noticeAck [0, 1]) noticed) ∧
      noticed.nu.attnGap = false := by
  refine ⟨ready_hold, ?_⟩
  unfold Running
  decide +kernel

/-- An acknowledgement of one kind gives its count and filter and what is left, releases ATTN, and drives it after the gap;
one of all kinds ends without a gap. -/
theorem test_notice_ack :
    let t := after (.noticeAck [0, 1]) noticed
    reply t = (0x8C, [2, 3, 0, 0x20]) ∧ t.nu.attnDriven = false ∧ (after .attnRetriggerGapEnd t).nu.attnDriven = true ∧
      (after (.noticeAck [0x0F, 0xFF]) noticed).nu.attnGap = false := by decide +kernel

/-! ### The gallery bus -/

/-- A node's poll is due. -/
def dueIn (s : State) (n : NodeId) : State := { s with gbm := { s.gbm with phase := .due n } }

/-- What a test looks at in the bus. -/
structure BusLook where
  phase : ScanPhase
  lost  : Bool
  state : FilterState
deriving DecidableEq, Repr

/-- The look at the bus and filter 1. -/
def busLook (t : State) : BusLook := ⟨t.gbm.phase, (t.link (.filter 0)).lost, (t.filter 0).state⟩

/-- `ScansAndPolls`: no scan in progress, a scan in progress, a poll due. -/
theorem witness_ScansAndPolls :
    Running hold ∧ hold.gbm.phase = .idle ∧ (dueIn hold .waste).gbm.phase ≠ .idle ∧
      (dueIn hold .waste).gbm.phase = .due .waste := by
  unfold Running
  decide +kernel

/-- The code of each poll, one rule after the other. -/
theorem test_poll_codes :
    let code := fun (s : State) (n : NodeId) => (after .poll (dueIn s n)).gbm.phase
    code (after (.isolate [2]) hold) (.filter 1) = .awaiting (.filter 1) .writeIo ∧
      code (hold.modFilter 1 fun r => { r with totalClear := true }) (.filter 1) = .awaiting (.filter 1) .clearTotal ∧
      code hold (.filter 0) = .awaiting (.filter 0) .readTotal ∧ code hold (.filter 1) = .awaiting (.filter 1) .readIo ∧
      code (inMode .survey) (.filter 0) = .awaiting (.filter 0) .readIo ∧
      code (hold.stopHeld 0) .washWater = .awaiting .washWater .readIo ∧
      code hold .waste = .awaiting .waste .readIo ∧ (after .scanPeriodExpiry hold).gbm.phase = .due (.filter 0) := by
  decide +kernel

/-- A node one miss short of LOST. -/
def onTheBrink (n : NodeId) (s : State) : State :=
  { s with gbm := { s.gbm with
    links := s.gbm.links.set n.index.val { NodeLink.reset with misses := 3 }, phase := .awaiting n .readIo } }

/-- Filter 1 one miss short of LOST. -/
def nearlyLost (s : State) : State := onTheBrink (.filter 0) s

/-- `MissingAnswersAreCounted`: a first miss, the miss that loses the node, each state of the filter, a wash ACTIVE and
EXITING, the nodes that follow filters 1 and 3 and node 22. -/
theorem witness_MissingAnswersAreCounted :
    Running (awaiting (.filter 0) .readIo) ∧ NodeId.filter 0 ≠ .waste ∧
      (missed ((awaiting (.filter 0) .readIo).link (.filter 0)) 4).lost = false ∧
      nodeAfter hold (.filter 0) (.filter 1) ∧ nodeAfter hold (.filter 2) .washWater ∧ nodeAfter hold .airNode .waste ∧
      (missed ((nearlyLost hold).link (.filter 0)) 4).lost = true ∧ ((nearlyLost hold).link (.filter 0)).lost = false ∧
      ((nearlyLost hold).filter 0).state = .service ∧
      ((nearlyLost (withFirst fun r => { r with state := .unknown })).filter 0).state = .unknown ∧
      ((nearlyLost (withFirst fun r => { r with state := .fault })).filter 0).pending = none ∧
      ((moving false false 1).filter 0).pending ≠ none ∧ (nearlyLost (washing wash)).slotNaming 0 = some 0 ∧
      (nearlyLost (washing wash)).ctx 0 = some wash ∧ wash.state = .active ∧
      (exiting .lateExit none 1).state = .exiting := by
  unfold Running nodeAfter
  decide +kernel

/-- The fourth miss loses the node, and its filter or its wash. -/
theorem test_missing_answers :
    busLook (after .missingAnswer (awaiting (.filter 0) .readIo)) = ⟨.due (.filter 1), false, .service⟩ ∧
      busLook (after .missingAnswer (nearlyLost hold)) = ⟨.due (.filter 1), true, .unknown⟩ ∧
      (after .missingAnswer (nearlyLost hold)).nu.accounts[6] = ⟨true, 1, 1⟩ ∧
      let t := after .missingAnswer (nearlyLost (washing wash))
      busLook t = ⟨.due (.filter 1), true, .unknown⟩ ∧ t.ctx 0 = none ∧
        t.wr.records.map (fun r => (r.outcome, r.cause)) = [(.orphaned, some .nodeLost)] := by decide +kernel

/-- A wash in its SAFE-EXIT that a trip has converted, and that holds the wash header. -/
def convertedHolder : State :=
  holding { exiting .safeExit (some .hostExit) 5 with secondCause := some .trip } [] [⟨0, false⟩] []

/-- The losses of `MissingAnswersAreCounted`: node 23, and a filter whose wash is ACTIVE and holds nothing, or EXITING and
holds a header. -/
theorem witness_losses :
    (onTheBrink .waste hold).gbm.phase = .awaiting .waste .readIo ∧
      (∀ s ∈ [nearlyLost (washing wash), nearlyLost convertedHolder],
        Running s ∧ s.gbm.phase = .awaiting (.filter 0) .readIo ∧ ((afterMiss s (.filter 0)).link (.filter 0)).lost = true ∧
        (s.link (.filter 0)).lost = false ∧ (s.filter 0).state = .wash ∧ s.slotNaming 0 = some 0) ∧
      (nearlyLost (washing wash)).ctx 0 = some wash ∧ wash.state = .active ∧
      (∀ h ∈ [Header.air, .wash, .ftw], (nearlyLost (washing wash)).holds 0 h = false) ∧
      (convertedHolder.ctx 0).map (fun w => w.state) = some .exiting ∧ convertedHolder.holds 0 .wash = true := by
  unfold Running
  decide +kernel

/-- What a test looks at in the causes of slot 0. -/
structure CauseLook where
  state  : WashState
  cause  : Option FaultCause
  second : Option FaultCause
deriving DecidableEq, Repr

/-- The look at the causes of slot 0. -/
def causeLook (t : State) : Option CauseLook := (t.ctx 0).map fun w => ⟨w.state, w.cause, w.secondCause⟩

/-- NODE-LOST replaces the TRIP of a converted exit; the loss of node 21 stops the pumps and ends its holder's and its waiter's
washes; node 23's missing answer completes the scan. -/
theorem test_losses :
    causeLook (after .missingAnswer (nearlyLost convertedHolder)) =
        some ⟨.orphan, some .hostExit, some .nodeLost⟩ ∧
      (let s := holding (inPhase .timing 1 5) [] [⟨0, false⟩] []
        let t := after .missingAnswer (onTheBrink .washWater (s.writeUnits .pumps ⟨true, false⟩))
        look t = some ⟨.exiting, .timing, some .returnExit, some .supplyLost⟩ ∧ t.gbm.washNode.image = ⟨false, false, 0⟩ ∧
          (t.nu.accounts[6]).lastFilter = 0 ∧ t.gbm.phase = .due .airNode) ∧
      (after .missingAnswer (onTheBrink .waste hold)).gbm.scansWithMiss = 1 := by decide +kernel

/-- A sound input answer of filter 1. -/
def filterAnswer : Answer := answer 1 1 (serviceWord ++ [0, 50, 1, 44, 0, 25])

/-- A sound totalizer answer of filter 1. -/
def totalAnswer (code : Byte) : Answer := answer 1 code [0, 0, 3, 232]

/-- `InvalidAnswersCountAsMissing`: a wrong CRC, another node's answer, a status bit clear, another code's, and none
awaited. -/
theorem witness_InvalidAnswersCountAsMissing :
    (awaiting (.filter 0) .readIo).gbm.phase = .awaiting (.filter 0) .readIo ∧
      ¬ validAnswer (.filter 0) .readIo { filterAnswer with crc := 0 } ∧
      ¬ validAnswer (.filter 1) .readIo filterAnswer ∧
      ¬ validAnswer (.filter 0) .readIo ⟨1, 1, 2, filterAnswer.payload, crc16 ([1, 1, 2] ++ filterAnswer.payload)⟩ ∧
      ¬ validAnswer (.filter 0) .writeIo filterAnswer ∧ hold.gbm.phase = .idle := by
  unfold validAnswer
  decide +kernel

/-- `FilterAnswersAreStored`: each code. -/
theorem witness_FilterAnswersAreStored :
    Running (awaiting (.filter 0) .readIo) ∧ validAnswer (.filter 0) .readIo filterAnswer ∧
      validAnswer (.filter 0) .writeIo (answer 1 2 filterAnswer.payload) ∧
      validAnswer (.filter 0) .readTotal (totalAnswer 3) ∧ validAnswer (.filter 0) .clearTotal (totalAnswer 4) ∧
      nodeAfter (awaiting (.filter 0) .readIo) (.filter 0) (.filter 1) ∧
      nodeAfter (awaiting (.filter 2) .readIo) (.filter 2) .washWater := by
  unfold Running validAnswer nodeAfter
  decide +kernel

/-- The readings of an input answer, and of both totalizer answers. -/
theorem test_filter_answers :
    let t := after (.filterInputAnswer filterAnswer) (awaiting (.filter 0) .readIo)
    let r := t.filter 0
    (r.headloss, r.level, r.turbidity) = (50, 300, 25) ∧
      r.view = PerValve.ofFn (fun v => if v = .inf ∨ v = .eff then ValveView.opened else .closed) ∧ r.drift = false ∧
      t.gbm.phase = .due (.filter 1) ∧
      ((after (.filterTotalizerAnswer (totalAnswer 3)) (awaiting (.filter 0) .readTotal)).filter 0).filteredVolume = 1000 ∧
      ((after (.filterTotalizerAnswer (totalAnswer 4)) (awaiting (.filter 0) .clearTotal)).filter 0).filteredVolume = 0 := by
  decide +kernel

/-- Filter 1 seen in SERVICE before, bit 12 of its input word watched, its answer awaited. -/
def watched : State :=
  let s := awaiting (.filter 0) .readIo
  { s with
    gbm := { s.gbm with filterNodes := s.gbm.filterNodes.set 0 { s.fnode 0 with input := some ⟨0x0AA5, 0, 0, 0⟩ } }
    cs := { s.cs with working := { config with filters := config.filters.set 0 ⟨some settings, 0x1000, 0⟩ } } }

/-- An answer of filter 1 whose input word is 1AA5h, with a status. -/
def statusAnswer (status : Byte) : Answer :=
  let payload : List Byte := [0x1A, 0xA5, 0, 50, 1, 44, 0, 25]
  ⟨1, 1, status, payload, crc16 (1 :: 1 :: status :: payload)⟩

/-- A watched input that changes raises CHANGE; LOCAL is taken, and left to survey-of-one; a regained filter in UNKNOWN is
classified; bits 2 to 7 of a status are not kept. -/
theorem test_filter_answer_acts :
    let t := after (.filterInputAnswer (statusAnswer 3)) watched
    t.nu.accounts[8] = ⟨true, 1, 1⟩ ∧ (t.filter 0).state = .localCtl ∧
      ((after (.filterInputAnswer (statusAnswer 1)) (watched.modFilter 0 fun r => { r with state := .localCtl })).filter
        0).state = .service ∧
      (let s := watched.modFilter 0 fun r => { r with state := .unknown }
        let u := after (.filterInputAnswer (statusAnswer 0xFD))
          { s with gbm := { s.gbm with links := s.gbm.links.set 0 { NodeLink.reset with lost := true, misses := 4 } } }
        (u.filter 0).state = .service ∧ (u.link (.filter 0)).status = some 1 ∧ (u.nu.accounts[6]).lastFilter = 1) := by
  decide +kernel

/-- `SupplyAnswersAreStored`: both nodes with both codes, no wash. -/
theorem witness_SupplyAnswersAreStored :
    Running (awaiting .washWater .writeIo) ∧ validAnswer .washWater .writeIo (answer 21 2 [1, 0, 0, 0, 9]) ∧
      validAnswer .washWater .readIo (answer 21 1 [1, 0, 0, 0, 9]) ∧ validAnswer .airNode .readIo (answer 22 1 [0, 0, 7]) ∧
      validAnswer .airNode .writeIo (answer 22 2 [0, 0, 7]) ∧ ∀ c, (awaiting .airNode .readIo).ctx c = none := by
  unfold Running validAnswer
  decide +kernel

/-- A wash in its WATER step, with node 21's answer awaited. -/
def pumping (w : WashContext) : State :=
  let s := holding w [] [⟨0, false⟩] []
  { s with gbm := { s.gbm with phase := .awaiting .washWater .readIo } }

/-- The wash in RAMPING or TIMING at 100 l/s, unit A running. -/
def flowing100 (p : Phase) (loss : Bool) : WashContext :=
  { inPhase p 1 5 with
    washSupply := .running .a loss, setpoint := 100, windowStart := some 995, lowFlowStart := some 900 }

/-- Slot 0 after an answer of node 21 with unit A active or not and a flow. -/
def pumped (w : WashContext) (units flow : Byte) : State :=
  after (.supplyNodeAnswer (answer 21 1 [units, 0, flow, 0, 100])) (pumping w)

/-- A confirmed start enters RAMPING; a flow in tolerance enters TIMING; low flow for a window exits with FLOW-LOW; the second
loss of run feedback flags unit A and starts B. -/
theorem test_pump_answers :
    look (pumped (starting .pumps ⟨true, false⟩ 5) 1 0) = some ⟨.active, .ramping, none, none⟩ ∧
      (pumped (starting .pumps ⟨true, false⟩ 5) 1 0).ra.pumpDuty = .b ∧
      look (pumped (flowing100 .ramping false) 1 90) = some ⟨.active, .timing, none, none⟩ ∧
      look (pumped (flowing100 .ramping false) 1 89) = some ⟨.active, .ramping, none, none⟩ ∧
      look (pumped (flowing100 .timing false) 1 89) = some ⟨.exiting, .timing, some .returnExit, some .flowLow⟩ ∧
      pumpLook (pumped (flowing100 .timing true) 0 90) =
        ⟨⟨true, false⟩, ⟨false, true, 0⟩, some (.starting .b ⟨true, true⟩ 1000)⟩ := by decide +kernel

/-- `WasteAnswerCompletesTheScan`: SURVEY, HOLD; no cursor, the cursor at the first and the last filter. -/
theorem witness_WasteAnswerCompletesTheScan :
    Running (awaiting .waste .readIo) ∧ validAnswer .waste .readIo (answer 23 1 [1, 0, 1]) ∧ State.reset.gbm.cursor = none ∧
      hold.gbm.cursor = some 0 ∧ (1 : FilterId).val < hold.gbm.settings.filterCount ∧
      ¬ ((2 : FilterId).val + 1 < 20 ∧ (2 : FilterId).val + 1 < hold.gbm.settings.filterCount) ∧
      hold.mc.mode ≠ .auto ∧ hold.mc.mode ≠ .survey ∧ (inMode .survey).mc.mode = .survey := by
  unfold Running validAnswer
  decide +kernel

/-- As `awaiting` the answer of node 23, in a mode and with the third filter's totalizer read. -/
def lastNode (m : PartMode) (survey : Nat) : State :=
  { inMode m with
    mc := { (inMode m).mc with surveyProgress := survey }
    gbm := { hold.gbm with phase := .awaiting .waste .readIo, cursor := some 2 } }

/-- The end of a scan: the cursor, the survey, and an admission check on an empty queue in AUTO. -/
theorem test_scan_end :
    let t := fun m n => after (.supplyNodeAnswer (answer 23 1 [1, 0, 1])) (lastNode m n)
    (t .hold 0).gbm.cursor = some 0 ∧ (t .hold 0).gbm.wasteInput = some ⟨256, true⟩ ∧ (t .survey 1).mc.mode = .survey ∧
      (t .survey 2).mc.mode = .hold ∧ (t .auto 0).au.lastCheck = .empty ∧ (t .hold 0).au.lastCheck = .notRun ∧
      (t .hold 0).gbm.phase = .idle ∧ (t .hold 0).gbm.scanCount = 1 := by decide +kernel

/-- As `lastNode`, with an entry of class BREAKTHROUGH for filter 2 and R given, the floor in BREACH or not. -/
def scanning (m : PartMode) (required : Nat) (breach : Bool) : State :=
  { lastNode m 0 with
    wq := ⟨[⟨1, .breakthrough, CauseSet.single .turbidity, 950⟩, ⟨0, .host, CauseSet.single .host, 900⟩], 2⟩
    au := { hold.au with required := required, breach := breach } }

/-- A volume that rises over a threshold of 10, one that stays, and one not answered. -/
theorem witness_crossings :
    Crossed 10 ⟨some 9, true⟩ 10 ∧ Crossed 10 ⟨some 10, true⟩ 9 ∧ ¬ Crossed 10 ⟨some 10, true⟩ 11 ∧
      ¬ Crossed 10 ⟨some 9, false⟩ 10 ∧ Changed ⟨some 9, true⟩ 10 ∧ ¬ Changed ⟨some 9, true⟩ 9 := by
  refine ⟨⟨rfl, 9, rfl, by decide⟩, ⟨rfl, 10, rfl, by decide⟩, ?_, nofun, ⟨rfl, 9, rfl, by decide⟩, ?_⟩
  · rintro ⟨-, p, hp, h⟩
    cases hp
    exact absurd h (by decide)
  · rintro ⟨-, p, hp, h⟩
    cases hp
    exact h rfl

/-- The AU's parts in `WasteAnswerCompletesTheScan`: each mode, an entry considered and not, room and none, settings without a
value, thresholds with and without one, both floor states, and the candidates for shedding. -/
theorem witness_admission_unit :
    (∀ m, (scanning m 1 false).mc.mode = m) ∧ ((scanning .hold 1 false).filter 1).state = .service ∧
      ((scanning .hold 1 false).filter 1).pending = none ∧ WashClass.host ≠ .breakthrough ∧
      (hold.filterConfig 1).settings = some settings ∧ settings.isolate = true ∧
      (setupDefaults.filterConfig 1).settings = none ∧ (setupDefaults.filter 1).state = .service ∧
      2 + leavingCount (scanning .hold 2 false) + 1 ≤ inServiceCount (scanning .hold 2 false) ∧
      ¬ 3 + leavingCount (scanning .hold 3 false) + 1 ≤ inServiceCount (scanning .hold 3 false) ∧
      (scanning .hold 3 true).au.breach = true ∧ (scanning .hold 3 false).au.breach = false ∧
      hold.plant.tankThreshold = some 0 ∧ setupDefaults.plant.tankThreshold = none ∧
      Sheddable (washing (inPhase .timing 0 5)) (0, .returnExit) ∧ Sheddable (washing (inPhase .timing 2 5)) (0, .lateExit) ∧
      ¬ Sheddable (washing (inPhase .timing 0 5)) (0, .lateExit) := by
  refine ⟨fun _ => rfl, by decide +kernel, by decide +kernel, nofun, by decide +kernel, rfl, by decide +kernel,
    by decide +kernel, by decide +kernel, by decide +kernel, rfl, rfl, rfl, rfl,
    ⟨nofun, _, rfl, rfl, Or.inr ⟨rfl, (nomatch ·.2.1), rfl⟩⟩, ⟨nofun, _, rfl, rfl, Or.inl ⟨rfl, rfl, rfl, rfl⟩⟩, ?_⟩
  rintro ⟨-, w, hw, -, h | h⟩
  · cases (show some (inPhase .timing 0 5) = some w from hw)
    exact nomatch h.2.2.1
  · exact nomatch h.1

/-- In HOLD a scan's end isolates filter 2 while the floor allows it, and not in SURVEY. -/
theorem test_isolation_pass :
    let t := fun m r => after (.supplyNodeAnswer (answer 23 1 [1, 0, 1])) (scanning m r false)
    ((t .hold 2).filter 1).pending = some ⟨false, 1000, false⟩ ∧ ((t .hold 3).filter 1).pending = none ∧
      ((t .survey 2).filter 1).pending = none ∧ ((t .hold 2).filter 0).pending = none := by decide +kernel

/-- What a test looks at in the shed list and the exits of slots 0 and 1. -/
structure ShedLook where
  shed  : List Slot
  exits : List (Option ExitKind)
deriving DecidableEq, Repr

/-- The look at the shed list. -/
def shedLook (t : State) : ShedLook :=
  ⟨t.au.shed, [0, 1].map fun c => (t.ctx c).bind fun w => w.exitKind⟩

/-- A breach by one sheds the ripening wash, a breach by two the other as well. -/
theorem test_shedding :
    let t := fun r =>
      let s := washing (inPhase .timing 0 5)
      State.shedding { s with
        ss := { contexts := s.ss.contexts.set 1 (some { inPhase .timing 2 5 with filter := 1 }) }
        au := { s.au with required := r, breach := true } }
    shedLook (t 3) = ⟨[1], [none, some .lateExit]⟩ ∧ shedLook (t 4) = ⟨[1, 0], [some .returnExit, some .lateExit]⟩ := by
  decide +kernel

/-- The survey's end classifies filter 1 by its answer, and leaves filter 2, without one, UNKNOWN; a tank volume that crosses
its threshold raises VOLUME. -/
theorem test_survey_end :
    let s := lastNode .survey 2
    let heard := { (watched.modFilter 0 fun r => { r with state := .unknown, surveyAnswered := true }).modFilter 1
      fun r => { r with state := .unknown } with mc := s.mc }
    let g := { heard.gbm with phase := .awaiting .waste .readIo, links := heard.gbm.links.set 0 { NodeLink.reset with
      status := some 1 } }
    let t := after (.supplyNodeAnswer (answer 23 1 [1, 0, 1])) { heard with gbm := g }
    (t.filter 0).state = .service ∧ (t.filter 1).state = .unknown ∧ t.mc.mode = .hold ∧
      (State.watchVolumes { hold with
        cs := { hold.cs with working := { config with plant := { config.plant with tankThreshold := some 500 } } }
        nu := { hold.nu with tankWatch := ⟨some 499, true⟩ } }).nu.accounts[9] = ⟨true, 1, 0⟩ := by decide +kernel

/-! ### Reads -/

/-- What a test looks at in a long reply: its kind, its length and its first bytes. -/
structure ReplyLook where
  kind   : Byte
  length : Nat
  first  : List Byte
deriving DecidableEq, Repr

/-- The look at the reply to a command. -/
def replyLook (i : Instr) (s : State) (first : Nat) : ReplyLook :=
  let r := reply (after i s)
  ⟨r.1, r.2.length, r.2.take first⟩

/-- A byte that names no filter, at both ends. -/
theorem witness_no_filter : NoFilter 0 ∧ NoFilter 21 ∧ ¬ NoFilter 1 ∧ ¬ NoFilter 20 := by
  unfold NoFilter
  decide

/-- `IdentAndStatusReportThePart`: fresh and stale. -/
theorem witness_IdentAndStatusReportThePart : Ready hold ∧ (flowing 120).au.fresh = true ∧ hold.au.fresh = false :=
  ⟨ready_hold, rfl, rfl⟩

/-- IDENT and the first bytes of STATUS. -/
theorem test_ident_status :
    reply (after (.ident []) hold) = (0x81, [0x4A, 0x14, 1, 20, 0, 2, 3]) ∧
      replyLook (.status []) hold 10 = ⟨0x82, 39, [0, 0, 3, 232, 2, 3, 0, 0, 1, 0xFF]⟩ := by decide +kernel

/-- `FilterReadsReportTheRecord` (the bytes that name no filter are those of `witness_no_filter`). -/
theorem witness_FilterReadsReportTheRecord : Ready (moving false true 5) ∧ filterByte 0 = 1 ∧ filterByte 19 = 20 :=
  ⟨⟨rfl, show Receiver.hunt ≠ .busy by decide⟩, rfl, rfl⟩

/-- FILTER-READ and PATTERN-READ of filter 1 on its way to ISOLATED, filter 0 refused. -/
theorem test_filter_reads :
    replyLook (.filterRead [1]) (moving false true 5) 15 =
        ⟨0x84, 30, [1, 1, 0, 0, 1, 0, 0, 3, 227, 0, 0, 0, 0xFF, 0xFF, 0xFF]⟩ ∧
      reply (after (.patternRead [1]) (moving false true 5)) = (0xA0, [0, 0, 0, 0, 1, 0, 0, 3, 227]) ∧
      reply (after (.patternRead [0]) (moving false true 5)) = (0xFF, [0x20, 3, 0]) := by decide +kernel

/-- Two entries: filter 2 of class BREAKTHROUGH before filter 1 of class HOST. -/
def queued : State :=
  { hold with wq := {
    entries := [⟨1, .breakthrough, CauseSet.single .turbidity, 950⟩, ⟨0, .host, CauseSet.single .host, 900⟩]
    changeNumber := 2 } }

theorem ready_queued : Ready queued := ⟨rfl, show Receiver.hunt ≠ .busy by decide⟩

/-- `QueueReadListsTheEntries`: a queue of two and the empty one. -/
theorem witness_QueueReadListsTheEntries :
    Ready queued ∧ queued.wq.entries[1]? = some ⟨0, .host, CauseSet.single .host, 900⟩ ∧ hold.wq.entries[0]? = none :=
  ⟨ready_queued, rfl, rfl⟩

/-- QUEUE-READ of two entries. -/
theorem test_queue_read :
    reply (after (.queueRead []) queued) =
      (0x85, [0, 2, 2] ++ [2, 0, 1, 0, 0, 3, 182, 1, 0, 0] ++ [1, 3, 8, 0, 0, 3, 132, 1, 0, 0]) := by decide +kernel

/-- `ContextReadReportsTheWash`: slots 3 and 4, FREE, ORPHAN, EXITING, each phase of an ACTIVE context, waiting and holding,
RETURN, a RIPEN step. -/
theorem witness_ContextReadReportsTheWash :
    Ready (washing wash) ∧ 3 < (4 : Byte).toNat ∧ slotByte 3 = 3 ∧ (washing wash).ctx 3 = none ∧
      (washing wash).ctx 0 = some wash ∧ ({ wash with state := .orphan } : WashContext).state = .orphan ∧
      (exiting .safeExit none 9).exitStart = some 991 ∧ (∀ p, (inPhase p 1 9).state = .active ∧ (inPhase p 1 9).phase = p) ∧
      (ramping 1 9).windowStart = some 991 ∧ (inPhase .timing 3 9).planned? = none ∧
      (inPhase .timing 2 9).kind? = some .ripen ∧ hold.headerAwaited 0 = none ∧
      State.headerAwaited { hold with ra := { hold.ra with headers := ⟨⟨[], []⟩, ⟨[], [1, 0]⟩, ⟨[], []⟩⟩ } } 0 = some .wash := by
  refine ⟨ready_washing _, by decide, rfl, rfl, rfl, rfl, rfl, fun _ => ⟨rfl, rfl⟩, rfl, rfl, rfl, ?_⟩
  decide +kernel

/-- A FREE context's two bytes, the length of an ACTIVE one's, slot 4 refused. -/
theorem test_context_read :
    reply (after (.contextRead [3]) (washing wash)) = (0x86, [3, 0]) ∧
      replyLook (.contextRead [0]) (washing wash) 6 = ⟨0x86, 67, [0, 1, 1, 0, 3, 3]⟩ ∧
      reply (after (.contextRead [4]) (washing wash)) = (0xFF, [6, 3, 0]) := by decide +kernel

/-- A wash in TIMING of its RIPEN step, its sustain begun 5 s ago. -/
def sustaining : WashContext := { inPhase .timing 2 9 with sustainStart := some 995 }

/-- An AIRWATER's two supplies in STARTING, the pumps since 5 s, the blowers since 3 s. -/
def startingBoth : WashContext := (starting .pumps ⟨true, false⟩ 5).setSupply .blowers (.starting .a ⟨true, false⟩ 997)

/-- The timers of `ContextReadReportsTheWash`: two supplies in STARTING, the watch with a sustain and without one, a ripen result
after the watch, and neither. -/
theorem witness_context_timers :
    startTimes startingBoth = [997, 995] ∧ startingBoth.state = .active ∧ startingBoth.phase = .starting ∧
      ((startTimes startingBoth).all fun u => (hold.mc.seconds - u).toNat ≤ (hold.mc.seconds - 995).toNat) = true ∧
      WatchRuns sustaining ∧ sustaining.sustainStart = some 995 ∧ (inPhase .timing 2 9).sustainStart = none ∧
      ¬ WatchRuns (inPhase .setting 2 9) ∧ (inPhase .setting 2 9).kind? = some .ripen ∧ wash.kind? ≠ some .ripen ∧
      wash.ripenResult = .none ∧ ({ wash with ripenResult := .good } : WashContext).ripenResult ≠ .none := by
  unfold WatchRuns
  decide +kernel

/-- The seconds left of the earlier start, and the ripening fields with the sustain, without it, and absent. -/
theorem test_context_timers :
    let body := fun w => (reply (after (.contextRead [0]) (washing w))).2
    ((body startingBoth).drop 35).take 6 = [0, 15, 0, 0, 0, 10] ∧
      (body sustaining).drop 56 = be32 995 ++ be32 (hold.plant.ripenSustain - 5) ++ [0, 0, 20] ∧
      (body (inPhase .timing 2 9)).drop 56 = List.replicate 8 0xFF ++ [0, 0, 20] ∧
      (body wash).drop 56 = List.replicate 11 0xFF := by decide +kernel

/-- `ResourceReadReportsTheSharedPlant`: with and without reserves, a holder in each supply state, readings present and
absent. -/
theorem witness_ResourceReadReportsTheSharedPlant :
    Ready hold ∧ hold.plant.tankReserve = some 10 ∧ hold.plant.basinReserve = some 10 ∧
      setupDefaults.plant.tankReserve = none ∧ (hold.header .wash).holdings = [] ∧
      ((holding (starting .pumps ⟨true, false⟩ 3) [] [⟨0, false⟩] []).header .wash).holdings = [⟨0, false⟩] ∧
      (ramping 1 9).supply .pumps = .running .a false ∧ wash.supply .pumps = .stopped ∧
      hold.gbm.washNode.input = some ⟨false, false, 0, 500⟩ ∧ hold.gbm.wasteInput = some ⟨500, false⟩ ∧
      hold.gbm.airNode.input = none ∧ State.reset.gbm.wasteInput = none := by
  refine ⟨ready_hold, ?_⟩
  decide +kernel

/-- RESOURCE-READ: no holding, the tank's volume, and margins of 490 less the commitments. -/
theorem test_resource_read :
    let b := (reply (after (.resourceRead []) (washing wash))).2
    b.length = 72 ∧ b.take 10 = [1, 0xFF, 0xFF, 0xFF, 0xFF, 0, 0xFF, 0xFF, 0xFF, 0xFF] ∧
      (b.drop 45).take 2 = [1, 244] ∧ b.drop 64 = [0, 0, 1, 233, 0, 0, 1, 231] := by decide +kernel

/-- `NodeTableIsReadAndCleared`: SURVEY and another mode, the addresses 0 and 24, a node that is no filter's. -/
theorem witness_NodeTableIsReadAndCleared :
    (∀ m, Ready (inMode m)) ∧ (inMode .survey).mc.mode = .survey ∧ hold.mc.mode ≠ .survey ∧ (0 : Byte).toNat = 0 ∧
      23 < (24 : Byte).toNat ∧ NodeId.washWater ≠ .filter 0 := by
  refine ⟨ready_mode, ?_⟩
  decide +kernel

/-- NODE-READ of filter 1 and node 23; NODE-CLEAR gives the counts as they stood. -/
theorem test_node_read :
    replyLook (.nodeRead [1]) (nearlyLost hold) 5 = ⟨0x88, 46, [1, 17, 3, 0, 0]⟩ ∧
      replyLook (.nodeRead [23]) hold 1 = ⟨0x88, 46, [23]⟩ ∧ reply (after (.nodeRead [24]) hold) = (0xFF, [8, 3, 0]) ∧
      reply (after (.nodeClear []) { hold with gbm := { hold.gbm with scansWithMiss := 5, overruns := 260 } }) =
        (0x89, [0, 5, 1, 4]) := by decide +kernel

/-- One record, of a wash that ended in a snapshot, or without one. -/
def recorded (x : Option Snapshot) : State :=
  { hold with wr := oneRecord ⟨[], 7⟩ (recordFor wash 1000 .heldExit (some .trip) none x) }

/-- A snapshot. -/
def snapshot : Snapshot := ⟨⟨1, some .water, .timing, 5⟩, ⟨PerValve.all false, PerValve.all .closed, ⟨false, true, false⟩⟩⟩

/-- `RecordReadIsByAge`: indexes 31 and 32, an index without a record, and a record with and without a snapshot. -/
theorem witness_RecordReadIsByAge :
    Ready hold ∧ (31 : Byte).toNat ≤ 31 ∧ 31 < (32 : Byte).toNat ∧ hold.wr.records.length ≤ (31 : Byte).toNat ∧
      ((recorded none).wr.records[0]?).map (fun r => r.snapshot) = some none ∧
      ((recorded (some snapshot)).wr.records[0]?).map (fun r => r.snapshot) = some (some snapshot) := by
  refine ⟨ready_hold, ?_⟩
  decide +kernel

/-- RECORD-READ of the newest record; indexes 1 and 32 are refused STATE and RANGE. -/
theorem test_record_read :
    replyLook (.recordRead [0]) (recorded (some snapshot)) 9 = ⟨0x8A, 37, [1, 0, 8, 0, 7, 1, 0, 3, 8]⟩ ∧
      reply (after (.recordRead [1]) (recorded none)) = (0xFF, [0x0A, 5, 0]) ∧
      reply (after (.recordRead [32]) (recorded none)) = (0xFF, [0x0A, 3, 0]) := by decide +kernel

/-- `NoticesAreReadAndEnabled`. -/
theorem witness_NoticesAreReadAndEnabled : Ready noticed := ⟨rfl, show Receiver.hunt ≠ .busy by decide⟩

/-- A disabled kind is not accounted any more. -/
theorem test_notice_enable :
    let t := after (.noticeEnable [0xF0, 0x00]) hold
    reply t = (0x8D, [0, 0]) ∧ t.raise .fault 1 = t ∧
      replyLook (.noticeRead []) noticed 6 = ⟨0x8B, 29, [0x0F, 0xFF, 0, 0x21, 2, 3]⟩ := by decide +kernel

/-! ### Profiles, configuration, modes -/

/-- What a test looks at in the mode and the states of filters 1 and 4. -/
structure ModeLook where
  mode   : PartMode
  states : List FilterState
deriving DecidableEq, Repr

/-- The look at the mode. -/
def modeLook (t : State) : ModeLook := ⟨t.mc.mode, [(t.filter 0).state, (t.filter 3).state]⟩

/-- A PLANT-CONFIG body at the upper ends of R180. -/
def plantBody : List Byte :=
  [20, 4] ++ be16 2000 ++ be16 20000 ++ be16 900 ++ be16 7200 ++ be16 9999 ++ be16 9999 ++ be16 500 ++ be16 1000 ++
    [20, 15] ++ be16 240 ++ be16 3600 ++ be16 60 ++ be16 300 ++ [20] ++ be16 7200 ++ be16 900 ++ be16 600 ++ be16 600 ++
    be16 9999 ++ be16 9999

/-- A FILTER-CONFIG body at the upper ends of R90; its first 14 bytes are a TUNE body. -/
def filterBody (f : Byte) : List Byte := [f, 7] ++ be16 3000 ++ be16 5000 ++ be16 2000 ++ [240] ++ be32 999999 ++ [1, 0, 3, 16, 0]

/-- A PROFILE-WRITE body for profile 7: the test profile. -/
def profileBody : List Byte := [7, 3] ++ profile.flatMap stepWire

/-- `ProfilesAreValidatedAndPlanned`: a valid profile, one whose third step fails, one without water, and each sort of
step. -/
theorem witness_ProfilesAreValidatedAndPlanned :
    profile ≠ [] ∧ failingIndex profile = none ∧ failingIndex (profile ++ profile) = some 2 ∧
      failingIndex defaultProfile = some 2 ∧ IsWater ⟨.water, 10, 100, 50, 0, true⟩ ∧
      ¬ IsWater ⟨.ripen, 30, 0, 0, 0, false⟩ ∧ ¬ IsWater ⟨.drain, 20, 0, 0, 500, false⟩ := by
  unfold IsWater
  decide +kernel

/-- Volumes round up: 100 l/s for 10 s is 1 m3, for 11 s is 2. -/
theorem test_planned_volumes :
    plannedWater ⟨.water, 10, 100, 50, 0, true⟩ = 1 ∧ plannedWater ⟨.airwater, 11, 100, 0, 0, true⟩ = 2 ∧
      plannedWaste 60 ⟨.ripen, 30, 0, 0, 0, false⟩ = 2 ∧ plannedWater ⟨.ripen, 30, 0, 0, 0, false⟩ = 0 := by decide +kernel

/-- `ProfilesAreReadAndWritten`: profiles 7 and 8, a body in range and out of it. -/
theorem witness_ProfilesAreReadAndWritten :
    Ready (inMode .setup) ∧ 7 < (8 : Byte).toNat ∧ hold.cs.working.profiles[(7 : Byte).toNat]? = some defaultProfile ∧
      (inMode .setup).mc.mode = .setup ∧ profileBody.length = 2 + 10 * u8 profileBody 1 ∧ profileBody.length ≤ 240 ∧
      ProfileWireOk profileBody ∧ u8 profileBody 0 = (7 : Fin 8).val ∧ ¬ ProfileWireOk [8, 0] := by
  refine ⟨ready_mode _, ?_⟩
  unfold ProfileWireOk WireStepOk
  decide +kernel

/-- PROFILE-WRITE stores the profile and gives its demands; a written step count of 2 is out of range. -/
theorem test_profile_write :
    let t := after (.profileWrite profileBody) (inMode .setup)
    reply t = (0x98, [7, 1, 0xFF, 0, 1, 0, 3]) ∧ t.cs.working.profiles[7] = profile ∧
      reply (after (.profileWrite ([7, 2] ++ List.replicate 20 1)) (inMode .setup)) = (0xFF, [0x18, 3, 0]) ∧
      replyLook (.profileRead [0]) hold 2 = ⟨0x99, 38, [0, 3]⟩ := by decide +kernel

/-- The ends of the ranges of R70 for a step, and a hold point of 2 (log 24). -/
theorem witness_step_ranges :
    (∀ p ∈ [ProfileStep.mk .drain 1 0 0 0 false, ⟨.ripen, 1800, 2000, 2000, 3000, true⟩], WireStepOk (stepWire p) 0) ∧
      (∀ p ∈ [ProfileStep.mk .drain 0 0 0 0 false, ⟨.drain, 1801, 0, 0, 0, false⟩, ⟨.drain, 1, 2001, 0, 0, false⟩,
        ⟨.drain, 1, 0, 2001, 0, false⟩, ⟨.drain, 1, 0, 0, 3001, false⟩], ¬ WireStepOk (stepWire p) 0) ∧
      ¬ WireStepOk ([0] ++ be16 1 ++ be16 0 ++ be16 0 ++ be16 0 ++ [2]) 0 ∧
      ¬ WireStepOk (7 :: (stepWire ⟨.drain, 1, 0, 0, 0, false⟩).drop 1) 0 := by
  unfold WireStepOk
  decide +kernel

/-- `ConfigurationIsReadAndReplaced`: filters 20 and 21, bodies in range and out of it. -/
theorem witness_ConfigurationIsReadAndReplaced :
    Ready (inMode .setup) ∧ 20 < (21 : Byte).toNat ∧ filterByte 19 = 20 ∧ (inMode .setup).mc.mode = .setup ∧
      (filterBody 20).length = 18 ∧ SettingsOk (filterBody 20) ∧ u8 (filterBody 20) 0 = (19 : FilterId).val + 1 ∧
      NoFilter ((filterBody 0).getD 0 0) ∧ ¬ SettingsOk (List.replicate 18 255) ∧ plantBody.length = 41 ∧ PlantOk plantBody ∧
      ¬ PlantOk (1 :: plantBody.drop 1) ∧ ¬ PlantOk (21 :: plantBody.drop 1) := by
  refine ⟨ready_mode _, by decide, rfl, rfl, rfl, ?_, rfl, Or.inl rfl, fun h => absurd h.1 (by decide), rfl, ?_,
    fun h => absurd h.1.1 (by decide), fun h => absurd h.1.2 (by decide)⟩
  · unfold SettingsOk
    decide +kernel
  · unfold PlantOk
    repeat' apply And.intro
    all_goals decide +kernel

/-- FILTER-CONFIG, PLANT-CONFIG, CONFIG-READ, and DISCARD without a store. -/
theorem test_configuration :
    (after (.filterConfig (filterBody 20)) (inMode .setup)).cs.working.filters[19] =
        ⟨some ⟨7, 3000, 5000, 2000, 240, 999999, true⟩, 3, 0x1000⟩ ∧
      reply (after (.plantConfig plantBody) (inMode .setup)) = (0x9B, []) ∧
      replyLook (.configRead [0]) hold 2 = ⟨0x9C, 43, [3, 2]⟩ ∧ replyLook (.configRead [1]) hold 1 = ⟨0x9C, 18, [0]⟩ ∧
      (after (.plantConfig plantBody) (inMode .setup)).plant.filterCount = 20 ∧
      (after (.discard []) (inMode .setup)).cs.working = WorkingConfig.defaults := by decide +kernel

/-- A PLANT-CONFIG body at the lower ends of R180. -/
def lowPlantBody : List Byte :=
  [2, 1] ++ be16 50 ++ be16 0 ++ be16 10 ++ be16 0 ++ be16 0 ++ be16 0 ++ be16 10 ++ be16 100 ++ [1, 2] ++ be16 10 ++
    be16 60 ++ be16 5 ++ be16 20 ++ [0] ++ be16 60 ++ be16 10 ++ be16 10 ++ be16 10 ++ be16 0 ++ be16 0

/-- A TUNE body at the lower ends of R90. -/
def lowTuneBody : List Byte := [1, 0] ++ be16 100 ++ be16 50 ++ be16 20 ++ [1] ++ be32 0 ++ [0]

/-- The lower ends of R180 and R90, and a flag of 2 (log 24). -/
theorem witness_lower_ends :
    lowPlantBody.length = 41 ∧ PlantOk lowPlantBody ∧ lowTuneBody.length = 14 ∧ SettingsOk lowTuneBody ∧
      ¬ SettingsOk (lowTuneBody.take 13 ++ [2]) := by
  refine ⟨rfl, ?_, rfl, ?_, ?_⟩
  · unfold PlantOk
    repeat' apply And.intro
    all_goals decide +kernel
  all_goals
    unfold SettingsOk
    decide +kernel

/-- `TuneReplacesTheFields`: each mode, filters 20 and 21, an UNUSED filter and one in SERVICE, fields in range and out. -/
theorem witness_TuneReplacesTheFields :
    Ready hold ∧ hold.mc.mode = .hold ∧ (inMode .auto).mc.mode = .auto ∧ ((filterBody 20).take 14).length = 14 ∧
      NoFilter (((filterBody 21).take 14).getD 0 0) ∧ u8 ((filterBody 20).take 14) 0 = (19 : FilterId).val + 1 ∧
      (hold.filter 19).state = .unused ∧ (hold.filter 0).state ≠ .unused ∧ SettingsOk ((filterBody 1).take 14) ∧
      ¬ SettingsOk (1 :: List.replicate 13 255) ∧ hold.cs.working.profiles[7]? = some defaultProfile := by
  refine ⟨ready_hold, ?_⟩
  unfold SettingsOk NoFilter
  decide +kernel

/-- TUNE replaces the fields and tells that profile 7 is not valid; filter 20 is UNUSED. -/
theorem test_tune :
    let t := after (.tune ((filterBody 1).take 14)) hold
    t.cs.working.filters[0] = ⟨some ⟨7, 3000, 5000, 2000, 240, 999999, true⟩, 0, 0x1000⟩ ∧
      (reply t).2.drop 13 = [0, 2] ∧ reply (after (.tune ((filterBody 20).take 14)) hold) = (0xFF, [0x17, 5, 0]) := by
  decide +kernel

/-- `ModeIsDecided`: every mode, every context FREE and one ACTIVE, a valid configuration and the defaults, code 4. -/
theorem witness_ModeIsDecided :
    (∀ m, Ready (inMode m) ∧ (inMode m).mc.mode = m ∧ (inMode m).ctx = hold.ctx) ∧ (∀ c, hold.ctx c = none) ∧
      (washing wash).ctx 0 ≠ none ∧ failingItem (inMode .setup).cs.working = none ∧
      failingItem setupDefaults.cs.working = some 1 ∧ 3 < (4 : Byte).toNat := by
  refine ⟨fun m => ⟨ready_mode m, rfl, rfl⟩, ?_⟩
  decide +kernel

/-- The modes a MODE can lead to, and its refusals. -/
theorem test_mode :
    (after (.mode [3]) hold).mc.mode = .auto ∧ (after (.mode [1]) hold).mc.mode = .setup ∧
      reply (after (.mode [1]) (washing wash)) = (0xFF, [0x0E, 5, 0]) ∧
      reply (after (.mode [2]) setupDefaults) = (0xFF, [0x0E, 10, 1]) ∧
      let t := after (.mode [2]) (inMode .setup)
      modeLook t = ⟨.survey, [.unknown, .unused]⟩ ∧ t.gbm.phase = .due (.filter 0) := by
  decide +kernel

/-- A filter taken to UNUSED, and one taken from it, keep their marks and no other value (log 39). -/
theorem test_marks_over_unused :
    let marked := fun st => { FilterRecord.reset st with shortRipen := true, rewashPending := true }
    let s := ((inMode .setup).modFilter 0 fun _ => { marked .unused with runSeconds := 5 }).modFilter 3 fun _ =>
      { marked .held with held := some .clean }
    let t := after (.mode [2]) s
    t.filter 0 = marked .unknown ∧ t.filter 3 = marked .unused := by decide +kernel

/-! ### Requests on the plant -/

theorem operable_washing (w : WashContext) : Operable (washing w) := ⟨ready_washing w, Or.inl rfl⟩

/-- What a test looks at in a filter: its state, its trip, and its movement. -/
structure FilterLook where
  state  : FilterState
  trip   : Option (Fin 16)
  moving : Option Movement
deriving DecidableEq, Repr

/-- The look of filter 1. -/
def filterLook (t : State) : FilterLook := ⟨(t.filter 0).state, (t.filter 0).trip, (t.filter 0).pending⟩

/-- Filter 1 in a state, with a trip or not. -/
def placed (st : FilterState) (trip : Option (Fin 16)) : State := withFirst fun r => { r with state := st, trip := trip }

/-- An ORPHAN context in slot 0, holding the wash header, names filter 1 in UNKNOWN. -/
def orphaning : State :=
  { holding { exiting .lateExit none 5 with state := .orphan } [] [⟨0, true⟩] [] with
    ft := (placed .unknown none).ft }

theorem operable_orphaning : Operable orphaning := ⟨⟨rfl, show Receiver.hunt ≠ .busy by decide⟩, Or.inl rfl⟩

theorem orphan_named : OrphanNamed orphaning 0 := ⟨0, _, rfl, rfl, rfl⟩

theorem no_orphan (st : FilterState) (trip : Option (Fin 16)) : ¬ OrphanNamed (placed st trip) 0 := by
  rintro ⟨c, w, h, -, -⟩
  have : ∀ c, hold.ctx c = none := by decide +kernel
  exact nomatch (this c).symm.trans h

/-- `ReleaseAndIsolateStartMovements`: each state that RELEASE and ISOLATE take, a trip, an orphan, and WASH. -/
theorem witness_ReleaseAndIsolateStartMovements :
    Operable hold ∧ Operable (inMode .auto) ∧ MayRelease (placed .held none) 0 ∧ MayRelease (moving false true 1) 0 ∧
      MayRelease (placed .unknown none) 0 ∧ ¬ MayRelease (placed .held (some 15)) 0 ∧ ¬ MayRelease orphaning 0 ∧
      ¬ MayRelease (placed .service none) 0 ∧ MayIsolate (placed .service none) 0 ∧ MayIsolate (placed .fault none) 0 ∧
      MayIsolate (placed .unknown (some 0)) 0 ∧ ¬ MayIsolate orphaning 0 ∧ ¬ MayIsolate (placed .wash none) 0 :=
  ⟨operable_hold, ⟨ready_mode _, Or.inr rfl⟩, ⟨rfl, Or.inl rfl⟩, ⟨rfl, Or.inr (Or.inl ⟨rfl, nofun⟩)⟩,
    ⟨rfl, Or.inr (Or.inr ⟨rfl, no_orphan _ _⟩)⟩, (nomatch ·.1),
    fun h => h.2.elim nofun fun h => h.elim (nomatch ·.1) fun h => h.2 orphan_named,
    fun h => h.2.elim nofun fun h => h.elim (fun h => h.2 rfl) (nomatch ·.1),
    Or.inl rfl, Or.inr (Or.inr ⟨Or.inr rfl, no_orphan _ _⟩), Or.inr (Or.inr ⟨Or.inl rfl, no_orphan _ _⟩),
    fun h => h.elim nofun fun h => h.elim (nomatch ·.1) fun h => h.2 orphan_named,
    fun h => h.elim nofun fun h => h.elim (nomatch ·.1) fun h => h.1.elim nofun nofun⟩

/-- ISOLATE closes every valve of filter 1, RELEASE opens INF and EFF, and neither runs for an orphan's filter. -/
theorem test_release_isolate :
    (after (.isolate [1]) (placed .service none)).gbm.filterNodes[0].image = PerValve.all false ∧
      (after (.release [1]) (placed .held none)).gbm.filterNodes[0].image = ⟨true, true, false, false, false, false⟩ ∧
      filterLook (after (.release [1]) (placed .held none)) = ⟨.held, none, some ⟨true, 1000, false⟩⟩ ∧
      reply (after (.release [1]) (placed .held (some 3))) = (0xFF, [0x13, 5, 0]) ∧
      reply (after (.isolate [1]) orphaning) = (0xFF, [0x14, 5, 0]) := by decide +kernel

/-- An orphan whose inlet is seen CLOSED is released and freed by an answer of node 21 that shows both pumps inactive, and stays
while one runs. -/
theorem test_orphan_freed :
    let s := orphaning.modFilter 0 fun r => { r with view := PerValve.all .closed }
    let t := fun units => after (.supplyNodeAnswer (answer 21 1 [units, 0, 0, 0, 100]))
      { s with gbm := { s.gbm with phase := .awaiting .washWater .readIo } }
    slotLook (t 0) = ⟨none, none, []⟩ ∧ (t 0).ra.tankTotal = 0 ∧ ((t 0).header .wash).holdings = [] ∧
      slotLook (t 1) = ⟨some .orphan, none, []⟩ := by decide +kernel

/-- Filter 1 tripped on an input, its latest word given. -/
def tripped (i : Fin 16) (word : BitVec 16) : State :=
  let s := placed .held (some i)
  { s with gbm := { s.gbm with filterNodes := s.gbm.filterNodes.set 0 { s.fnode 0 with input := some ⟨word, 0, 0, 0⟩ } } }

/-- `ClearRemovesMarks`: each mark there and not, the trip input active, inactive and never read, codes 3, 6 and 7. -/
theorem witness_ClearRemovesMarks :
    Operable hold ∧ (hold.filter 0).trip = none ∧ ((tripped 15 0x8000).filter 0).trip = some 15 ∧
      (tripped 15 0x8000).gbm.filterNodes[0].input = some ⟨0x8000, 0, 0, 0⟩ ∧ (0x8000 : BitVec 16).getLsbD 15 = true ∧
      (0x7FFF : BitVec 16).getLsbD 15 = false ∧ ((placed .held (some 15)).fnode 0).input = none ∧
      (hold.filter 0).drift = false ∧ ((withFirst fun r => { r with drift := true }).filter 0).drift = true ∧
      (hold.filter 0).state ≠ .held ∧ ((withFirst fun r => { r with held := some .dirty }).filter 0).held = some .dirty ∧
      6 < (7 : Byte).toNat ∧ 3 ≤ (3 : Byte).toNat ∧ (6 : Byte).toNat ≤ 6 ∧ hold.ra.pumpFault.has .a = false ∧
      (⟨true, false⟩ : UnitSet).has .a = true := by
  refine ⟨operable_hold, ?_⟩
  decide +kernel

/-- CLEAR of a trip whose input is inactive, of one whose input is active, of a held condition, of a unit. -/
theorem test_clear :
    filterLook (after (.clearTrip [1]) (tripped 15 0)) = ⟨.held, none, none⟩ ∧
      reply (after (.clearTrip [1]) (tripped 15 0x8000)) = (0xFF, [0x16, 5, 0]) ∧
      ((after (.clearHeldCondition [1]) (withFirst fun r => { r with state := .held, held := some .dirty })).filter 0).held =
        some .clean ∧
      (after (.clearUnit [6, 0]) (hold.setUnitFault .blowers .b true)).ra.blowerFault = ⟨false, false⟩ ∧
      reply (after (.clearUnit [6, 1]) hold) = (0xFF, [0x16, 3, 0]) ∧
      reply (after (.clearDrift [1]) hold) = (0xFF, [0x16, 5, 0]) := by decide +kernel

/-- `HostQueuesAndCancels`: SERVICE and another state, an entry and none. -/
theorem witness_HostQueuesAndCancels :
    Operable queued ∧ (queued.filter 0).state ∈ [FilterState.service, .held] ∧
      (queued.filter 3).state ∉ [FilterState.service, .held] ∧ (∀ e ∈ queued.wq.entries, e.filter ≠ 2) ∧
      queued.wq.entries.find? (fun x => x.filter = 0) = some ⟨0, .host, CauseSet.single .host, 900⟩ := by
  refine ⟨⟨ready_queued, Or.inl rfl⟩, ?_⟩
  decide +kernel

/-- WASH queues filter 3 behind the two others, and CANCEL takes filter 1's entry out. -/
theorem test_wash_cancel :
    reply (after (.wash [3]) queued) = (0x8F, [3, 8, 0, 0, 3, 232, 2, 0, 3]) ∧
      reply (after (.cancel [1]) queued) = (0x90, [3, 8, 0, 0, 3, 132, 0, 3]) ∧
      reply (after (.cancel [3]) queued) = (0xFF, [0x10, 5, 0]) ∧
      reply (after (.wash [4]) queued) = (0xFF, [0x0F, 5, 0]) := by decide +kernel

theorem names_first (w : WashContext) (h : w.filter = 0) : NamesFilter (washing w) 0 w 0 :=
  ⟨rfl, h, fun _ hd => absurd hd (Fin.not_lt_zero _)⟩

/-- `HostExitIsDecided`: an ACTIVE context, an EXITING one, none. -/
theorem witness_HostExitIsDecided :
    Operable (washing wash) ∧ NamesFilter (washing wash) 0 wash 0 ∧ wash.state = .active ∧
      NamesFilter (washing (exiting .lateExit none 1)) 0 (exiting .lateExit none 1) 0 ∧
      (exiting .lateExit none 1).state ≠ .active ∧ ∀ c w, ¬ NamesFilter (washing wash) c w 1 := by
  refine ⟨operable_washing _, names_first _ rfl, rfl, names_first _ rfl, nofun, ?_⟩
  rintro c w ⟨h, hf, -⟩
  have h0 : (washing wash).ctx 0 = some wash := rfl
  have h1 : ∀ d : Slot, d ≠ 0 → (washing wash).ctx d = none := by decide +kernel
  by_cases hc : c = 0
  · subst hc
    cases h0.symm.trans h
    exact nomatch hf
  · exact nomatch (h1 c hc).symm.trans h

/-- EXIT of a wash in DRAIN is a RETURN-EXIT. -/
theorem test_exit :
    reply (after (.exit [1]) (washing wash)) = (0xA1, [0, 0, 0, 0]) ∧
      look (after (.exit [1]) (washing wash)) = some ⟨.exiting, wash.phase, some .returnExit, some .hostExit⟩ ∧
      reply (after (.exit [2]) (washing wash)) = (0xFF, [0x21, 5, 0]) := by decide +kernel

/-- Two washes, the second, of filter 2, holding the wash header. -/
def crowded : State :=
  let s := holding (inPhase .timing 0 20) [] [⟨1, false⟩] []
  { s with ss := { contexts := s.ss.contexts.set 1 (some { inPhase .timing 1 3 with filter := 1 }) } }

/-- `StepsBeginAndAskForHeaders`: a step without headers, one whose header is full, one whose node is LOST, a second header
after one that is held. -/
theorem witness_StepsBeginAndAskForHeaders :
    crowded.ctx 0 = some (inPhase .timing 0 20) ∧ headersOf (kindAt (inPhase .timing 0 20) 0) = [] ∧
      headersOf (kindAt (inPhase .timing 0 20) 1) = [] ++ Header.wash :: [] ∧
      headersOf (some .airwater) = [.air] ++ Header.wash :: [] ∧ crowded.holds 0 .wash = false ∧
      crowded.holds 1 .wash = true ∧ Header.wash.capacity ≤ (crowded.header .wash).holdings.length ∧
      ¬ FeedLost crowded .wash ∧
      FeedLost { hold with gbm := { hold.gbm with links := hold.gbm.links.set 20 { NodeLink.reset with lost := true } } } .wash ∧
      (inPhase .timing 0 20).state = .active := by
  unfold FeedLost
  decide +kernel

/-- What a test looks at in the wash header. -/
structure HeaderLook where
  holdings : List Holding
  waiting  : List Slot
deriving DecidableEq, Repr

/-- The look at the wash header. -/
def headerLook (t : State) : HeaderLook := ⟨(t.header .wash).holdings, (t.header .wash).waiting⟩

/-- The wash that finds the wash header full waits for it in ACQUIRE. -/
theorem test_waits_for_header :
    look (crowded.beginStep 0 1) = some ⟨.active, .acquire, none, none⟩ ∧
      headerLook (crowded.beginStep 0 1) = ⟨[⟨1, false⟩], [0]⟩ := by decide +kernel

/-- Filter 1's wash waits for the wash header, whose holding has gone. -/
def nextInLine : State := withoutHolding (crowded.beginStep 0 1) 1 .wash

/-- Filter 1's wash exits and holds the wash header, its inlet seen CLOSED. -/
def closing : State :=
  (holding (exiting .lateExit none 5) [] [⟨0, false⟩] []).modFilter 0 fun r => { r with view := PerValve.all .closed }

/-- The clauses on headers of `StepsBeginAndAskForHeaders`: room in a header, a header held, a freed header with a waiter, a
holding to release and one still needed. -/
theorem witness_headers :
    (washing (inPhase .acquire 1 5)).ctx 0 = some (inPhase .acquire 1 5) ∧
      headersOf (kindAt (inPhase .acquire 1 5) 1) = [] ++ Header.wash :: [] ∧
      ((washing (inPhase .acquire 1 5)).header .wash).holdings.length < Header.wash.capacity ∧
      ¬ FeedLost (washing (inPhase .acquire 1 5)) .wash ∧ ¬ FeedLost hold .ftw ∧
      (∀ h ∈ headersOf (kindAt (inPhase .timing 0 20) 1),
        (holding (inPhase .timing 0 20) [] [⟨0, false⟩] []).holds 0 h = true) ∧
      (nextInLine.header .wash).holdings.length < Header.wash.capacity ∧ (nextInLine.header .wash).waiting = 0 :: [] ∧
      (hold.header .ftw).waiting = [] ∧
      (closing.header .wash).holdings = [⟨0, false⟩] ∧ (closing.filter 0).view.get (inletOf .wash) = .closed ∧
      (closing.ctx 0).map (fun w => w.state) = some .exiting ∧
      Header.wash ∉ headersOf (kindAt (inPhase .timing 0 20) 0) ∧ Header.wash ∈ headersOf (kindAt (inPhase .timing 1 20) 1) := by
  unfold FeedLost
  decide +kernel

/-- A holder that sees its inlet closed gives the header to the waiter, which enters SETTING. -/
theorem test_header_release :
    let s := (crowded.beginStep 0 1).modFilter 1 fun r => { r with view := PerValve.all .closed }
    let t := State.releaseHolding (s.setCtx 1 (some { inPhase .timing 2 3 with filter := 1 })) 1 .wash
    headerLook t = ⟨[⟨0, false⟩], []⟩ ∧ look t = some ⟨.active, .setting, none, none⟩ := by decide +kernel

/-- `ContinueBeginsTheNextStep`: a context in HOLDPOINT, and none. -/
theorem witness_ContinueBeginsTheNextStep :
    Operable (washing (inPhase .holdpoint 1 5)) ∧
      NamesFilter (washing (inPhase .holdpoint 1 5)) 0 (inPhase .holdpoint 1 5) 0 ∧
      (inPhase .holdpoint 1 5).state = .active ∧ (inPhase .holdpoint 1 5).phase = .holdpoint ∧
      ∀ c w, ¬ NamesFilter hold c w 0 := by
  refine ⟨operable_washing _, names_first _ rfl, rfl, rfl, ?_⟩
  rintro c w ⟨h, -, -⟩
  exact nomatch ((by decide +kernel : ∀ c, hold.ctx c = none) c).symm.trans h

/-- CONTINUE of a hold point after WATER begins RIPEN. -/
theorem test_continue :
    reply (after (.continueWash [1]) (washing (inPhase .holdpoint 1 5))) = (0x92, [0, 2, 6, 1]) ∧
      reply (after (.continueWash [1]) (washing wash)) = (0xFF, [0x12, 5, 0]) := by decide +kernel

/-- `FreeReleasesAnOrphan`: slots 3 and 4, an ORPHAN context, an ACTIVE one, no waiter. -/
theorem witness_FreeReleasesAnOrphan :
    Operable orphaning ∧ 3 < (4 : Byte).toNat ∧ slotByte 3 = 3 ∧
      orphaning.ctx 0 = some { exiting .lateExit none 5 with state := .orphan } ∧
      (∀ h ∈ [Header.air, .wash, .ftw], (orphaning.header h).waiting = []) ∧
      ∀ w, (washing wash).ctx 0 = some w → w.state ≠ .orphan := by
  refine ⟨operable_orphaning, by decide, rfl, rfl, ?_, ?_⟩
  · decide +kernel
  · rintro w h
    cases (show (washing wash).ctx 0 = some wash from rfl).symm.trans h
    nofun

/-- FREE releases the wash header and lets filter 1 be classified. -/
theorem test_free :
    let t := after (.free [0]) orphaning
    reply t = (0x95, [0, 1, 2, 0, 1, 0, 3]) ∧ t.ctx 0 = none ∧ t.ra.headers.wash.holdings = [] ∧
      (t.filter 0).classifyDue = true ∧ reply (after (.free [0]) (washing wash)) = (0xFF, [0x15, 5, 0]) := by decide +kernel

/-! ### Admission -/

/-- What a test looks at in the AU. -/
structure CheckLook where
  result    : CheckResult
  admission : Option Seconds
  breach    : Bool
deriving DecidableEq, Repr

/-- The look at the AU. -/
def checkLook (t : State) : CheckLook := ⟨t.au.lastCheck, t.au.lastAdmission, t.au.breach⟩

/-- As `hold`, with R, the tank's and the basin's volume given, the wash water node LOST or not, and filter 1's profile. -/
def offered (required tank basin : Nat) (lost : Bool) (profile : Nat) : State :=
  { hold with
    au := { hold.au with required := required }
    gbm := { hold.gbm with
      washNode := { hold.gbm.washNode with input := some ⟨false, false, 0, tank⟩ }
      wasteInput := some ⟨basin, false⟩
      links := hold.gbm.links.set 20 { NodeLink.reset with lost := lost } }
    cs := { hold.cs with working := { config with
      filters := config.filters.set 0 ⟨some { settings with profile := profile }, 0, 0x1000⟩ } } }

/-- Filter 1 can just be started: R is one below the count in SERVICE, and the volumes are the demands and reserves. -/
def startable : State := offered 2 11 13 false 0

theorem ready_offered (r t b : Nat) (l : Bool) (p : Nat) : Ready (offered r t b l p) :=
  ⟨rfl, show Receiver.hunt ≠ .busy by decide⟩

theorem has_reserves (r t b : Nat) (l : Bool) (p : Nat) : HasReserves (offered r t b l p) := ⟨nofun, nofun⟩

theorem volume_suffices : VolumeTest startable profile := ⟨10, 10, rfl, rfl, by decide +kernel, by decide +kernel⟩

theorem tank_too_low : ¬ VolumeTest (offered 2 10 13 false 0) profile := by
  rintro ⟨tr, br, h, -, hv, -⟩
  cases (show some 10 = some tr from h)
  exact absurd hv (by decide +kernel)

theorem basin_too_full : ¬ VolumeTest (offered 2 11 12 false 0) profile := by
  rintro ⟨tr, br, -, h, -, hv⟩
  cases (show some 10 = some br from h)
  exact absurd hv (by decide +kernel)

/-- `StartTestsInOrder`: each test failing in a state in which the earlier ones pass, on both sides of its limit (the volume
test: `volume_suffices`, `tank_too_low`, `basin_too_full`, with `has_reserves`). -/
theorem witness_StartTestsInOrder :
    Ready startable ∧ (inMode .auto).mc.mode ≠ .hold ∧ startable.mc.mode = .hold ∧ ¬ Startable startable 19 ∧
      Startable startable 0 ∧ ¬ Startable (placed .held (some 0)) 0 ∧ Startable (placed .held none) 0 ∧
      (startable.cs.working.filters[0]).settings = some settings ∧
      startable.cs.working.profiles[settings.profile]? = some profile ∧ failingIndex profile = none ∧
      (offered 2 11 13 false 7).cs.working.profiles[7]? = some defaultProfile ∧ failingIndex defaultProfile = some 2 ∧
      ¬ SlotGate crowded ∧ Startable crowded 2 ∧ SlotGate startable ∧ ¬ FloorGate (offered 3 11 13 false 0) ∧
      FloorGate startable ∧ ¬ SupplyGate (offered 2 11 13 true 0) ∧ SupplyGate startable := by
  refine ⟨ready_offered _ _ _ _ _, ?_⟩
  unfold Startable SlotGate FloorGate SupplyGate
  decide +kernel

/-- The refusals of START, one test after the other. -/
theorem test_start_refused :
    reply (after (.start [0]) startable) = (0xFF, [0x11, 3, 0]) ∧
      reply (after (.start [4]) startable) = (0xFF, [0x11, 5, 0]) ∧
      reply (after (.start [1]) (offered 2 11 13 false 7)) = (0xFF, [0x11, 10, 2]) ∧
      reply (after (.start [3]) crowded) = (0xFF, [0x11, 8, 0]) ∧
      reply (after (.start [1]) (offered 3 11 13 false 0)) = (0xFF, [0x11, 6, 0]) ∧
      reply (after (.start [1]) (offered 2 11 13 true 0)) = (0xFF, [0x11, 9, 0]) ∧
      reply (after (.start [1]) (offered 2 10 13 false 0)) = (0xFF, [0x11, 7, 0]) ∧
      reply (after (.start [1]) (offered 2 11 12 false 0)) = (0xFF, [0x11, 7, 0]) := by decide +kernel

/-- `StartAdmitsTheFilter`: a filter in SERVICE and one in HELD, slot 0 and, behind a context, slot 1. -/
theorem witness_StartAdmitsTheFilter :
    Ready startable ∧ startable.mc.mode = .hold ∧ Startable startable 0 ∧ (startable.filter 0).state = .service ∧
      ((placed .held none).filter 0).state = .held ∧ SlotGate startable ∧ FloorGate startable ∧ SupplyGate startable ∧
      VolumeTest startable profile ∧ startable.ctx 0 = none ∧ (washing wash).ctx 1 = none ∧
      ∀ d : Slot, d < 1 → (washing wash).ctx d ≠ none := by
  unfold Startable SlotGate FloorGate SupplyGate
  exact ⟨ready_offered _ _ _ _ _, by decide +kernel, by decide +kernel, by decide +kernel, by decide +kernel,
    by decide +kernel, by decide +kernel, by decide +kernel, volume_suffices, by decide +kernel, by decide +kernel,
    by decide +kernel⟩

/-- START of filter 1: slot 0, HOST, 1000 s, 1 m3 and 3 m3, the filter in DRAIN. -/
theorem test_start :
    let t := after (.start [1]) startable
    reply t = (0x91, [0, 3, 8, 0, 0, 3, 232, 0, 1, 0, 3]) ∧ look t = some ⟨.active, .setting, none, none⟩ ∧
      filterLook t = ⟨.wash, none, none⟩ ∧ (t.filter 0).commanded = some .drain ∧ (t.ra.tankTotal, t.ra.basinTotal) = (1, 3) ∧
      checkLook t = ⟨.admitted 0, some 1000, false⟩ := by decide +kernel

/-- As `startable`, with filters 2 and 1 in the queue, and the record of filter 2 changed. -/
def offering (g : FilterRecord → FilterRecord) : State := { startable.modFilter 1 g with wq := queued.wq }

/-- As `startable`, with an admission at 101 s: 899 s ago. -/
def spaced : State := { startable with au := { startable.au with lastAdmission := some 101 } }

/-- The gates of `AdmissionCheckTestsGatesAndWalks`, each closed and open, the spacing on both sides of its limit. -/
theorem witness_gates :
    ¬ FloorGate (offered 3 11 13 false 0) ∧ FloorGate startable ∧ SlotGate startable ∧ ¬ SlotGate crowded ∧
      FloorGate crowded ∧ SpacingGate startable ∧ ¬ SpacingGate spaced ∧
      SpacingGate { startable with au := { startable.au with lastAdmission := some 100 } } ∧ SupplyGate startable ∧
      ¬ SupplyGate (offered 2 11 13 true 0) ∧ startable.wq.entries = [] := by
  refine ⟨?_, ?_, ?_, ?_, ?_, fun t h => (nomatch h), fun h => absurd (h 101 rfl) (by decide +kernel), ?_, ?_, ?_, rfl⟩
  rotate_left 5
  · intro t h
    cases (show some 100 = some t from h)
    decide +kernel
  all_goals (first | unfold FloorGate | unfold SlotGate | unfold SupplyGate)
  all_goals decide +kernel

theorem names_first_profile (g : FilterRecord → FilterRecord) : Names (offering g) 0 0 profile :=
  ⟨settings, show (startable.cs.working.filters[0]).settings = _ by decide +kernel, rfl,
    show startable.cs.working.profiles[0]? = _ by decide +kernel⟩

/-- The walk of `AdmissionCheckTestsGatesAndWalks`: each reason to pass an entry over, and an entry to admit behind one that
is passed over. -/
theorem witness_AdmissionCheckTestsGatesAndWalks :
    PassedOver (offering fun r => { r with state := .fault }) 1 .state ∧
      PassedOver (offering fun r => { r with trip := some 3 }) 1 .trip ∧
      PassedOver (offering fun r => { r with drift := true }) 1 .drift ∧
      PassedOver (State.modFilter (after .missingAnswer (nearlyLost hold)) 0 fun r => { r with state := .held }) 0 .node ∧
      PassedOver (offered 2 11 13 false 7) 0 .profile ∧ PassedOver (offered 2 10 13 false 0) 0 .volume ∧
      (offering fun r => { r with drift := true }).wq.entries =
        [⟨1, .breakthrough, CauseSet.single .turbidity, 950⟩] ++ ⟨0, .host, CauseSet.single .host, 900⟩ :: [] ∧
      Startable (offering fun r => { r with drift := true }) 0 ∧
      Names (offering fun r => { r with drift := true }) 0 0 profile := by
  refine ⟨?_, ?_, ?_, ?_, ⟨?_, 7, defaultProfile, ⟨{ settings with profile := 7 }, ?_, rfl, ?_⟩, ?_⟩,
    ⟨?_, has_reserves _ _ _ _ _, 0, profile, ⟨settings, ?_, rfl, ?_⟩, ?_, tank_too_low⟩, rfl, ?_, names_first_profile _⟩
  all_goals (try unfold PassedOver)
  all_goals (try unfold Startable)
  all_goals decide +kernel

/-- The check's result: each gate, the queue's first entry when none is eligible, the filter admitted behind one with a drift
flag. -/
theorem test_admission_check :
    (offered 3 11 13 false 0).admissionCheck.au.lastCheck = .floor ∧ crowded.admissionCheck.au.lastCheck = .slots ∧
      spaced.admissionCheck.au.lastCheck = .spacing ∧ (offered 2 11 13 true 0).admissionCheck.au.lastCheck = .supply ∧
      startable.admissionCheck.au.lastCheck = .empty ∧
      (State.admissionCheck { offered 2 10 13 false 0 with wq := queued.wq }).au.lastCheck = .noneEligible 1 .volume ∧
      (offering fun r => { r with drift := true }).admissionCheck.au.lastCheck = .admitted 0 := by decide +kernel

/-! ### The blocks that act on answers -/

/-- What a test looks at in an entry of the wash queue. -/
structure EntryLook where
  filter : FilterId
  cls    : WashClass
  time   : Seconds
deriving DecidableEq, Repr

/-- The look at the wash queue. -/
def queueLook (t : State) : List EntryLook := t.wq.entries.map fun e => ⟨e.filter, e.cls, e.entryTime⟩

/-- `RequestsInsertOrUpgrade`: filter 3 without an entry, filter 1 with one: the same cause again, a higher class; filter 2:
a lower class; and a filter out of rotation. -/
theorem witness_RequestsInsertOrUpgrade :
    (queued.filter 0).state = .service ∧ (queued.filter 3).state ≠ .service ∧ (queued.filter 3).state ≠ .held ∧
      (∀ e ∈ queued.wq.entries, e.filter ≠ 2) ∧
      queued.wq.entries.find? (fun x => x.filter = 0) = some ⟨0, .host, CauseSet.single .host, 900⟩ ∧
      hasCause (CauseSet.single .host) .host = true ∧ ¬ Outranks (classOf .host) .host ∧
      hasCause (CauseSet.single .host) .turbidity = false ∧ Outranks (classOf .turbidity) .host ∧
      hasCause (CauseSet.single .turbidity) .host = false ∧ ¬ Outranks (classOf .host) .breakthrough ∧
      Safety.QueueLaw queued := by
  unfold Outranks Safety.QueueLaw
  decide +kernel

/-- An upgrade moves filter 1's entry to the front, with its old entry time. -/
theorem test_upgrade :
    queueLook (queued.request 0 .turbidity) = [⟨0, .breakthrough, 900⟩, ⟨1, .breakthrough, 950⟩] ∧
      (queued.request 0 .turbidity).wq.changeNumber = 3 ∧ queued.request 0 .host = queued := by decide +kernel

/-- `NoticesFloorAndStateChanges`: a kind enabled and disabled, SURVEY, F of 0, a breach that begins and one that does not, a
state that changes and one that does not. -/
theorem witness_NoticesFloorAndStateChanges :
    hold.cs.working.enables.getLsbD NoticeKind.trip.index.val = true ∧
      (after (.noticeEnable [0, 0]) hold).cs.working.enables.getLsbD NoticeKind.trip.index.val = false ∧
      (inMode .survey).mc.mode = .survey ∧ State.reset.gbm.settings.filterCount = 0 ∧ hold.mc.mode ≠ .survey ∧
      hold.gbm.settings.filterCount ≠ 0 ∧ decide (inServiceCount hold < hold.au.required) = hold.au.breach ∧
      decide (inServiceCount (offered 4 0 0 false 0) < (offered 4 0 0 false 0).au.required) ≠
        (offered 4 0 0 false 0).au.breach ∧
      (hold.filter 0).state = .service ∧ (hold.filter 0).state ≠ .fault := by decide +kernel

/-- A count stays at 255; a filter that goes to FAULT loses its entry; one less in SERVICE breaks the floor. -/
theorem test_state_change :
    (State.raise { hold with nu := { hold.nu with accounts := hold.nu.accounts.set 4 ⟨true, 255, 1⟩ } } .trip 2).nu.accounts[4] =
        ⟨true, 255, 2⟩ ∧
      (queued.changeState 0 .fault).wq = ⟨[⟨1, .breakthrough, CauseSet.single .turbidity, 950⟩], 3⟩ ∧
      ((offered 3 0 0 false 0).changeState 0 .fault).au.breach = true := by decide +kernel

/-- The view with a filter's valves in a pattern. -/
def viewIn (p : Pattern) : PerValve ValveView := PerValve.ofFn fun v => if p.opens v then .opened else .closed

theorem confirmed (p : Pattern) : Confirmed p (viewIn p) := fun v => by cases v <;> rfl

/-- Filter 1 in SERVICE, INF seen off its position. -/
def drifting (twice : Bool) : State :=
  withFirst fun r => { r with
    view := { viewIn .service with inf := .travelling }, offCounts := { PerValve.all false with inf := twice } }

/-- Filter 1 in SERVICE, its trip mask bit 15 and its previous word given. -/
def armed (word : BitVec 16) : State :=
  let s := withFirst fun r => { r with previousWord := word }
  { s with cs := { s.cs with working := { config with filters := config.filters.set 0 ⟨some settings, 0, 0x8000⟩ } } }

/-- `FilterTableActsOnAnswers`: a pattern confirmed and not, a movement and none; an off count the first and the second
time; the one trip input that goes active, and none; the three outcomes of survey-of-one. -/
theorem witness_FilterTableActsOnAnswers :
    Confirmed .service (viewIn .service) ∧ Confirmed .isolated (viewIn .isolated) ∧
      ¬ Confirmed .service (viewIn .isolated) ∧ ¬ Confirmed .isolated (viewIn .service) ∧
      ((moving true true 5).filter 0).pending = some ⟨true, 995, true⟩ ∧ (hold.filter 0).pending = none ∧
      ((drifting true).filter 0).commanded = some .service ∧ Off .service ((drifting true).filter 0).view .inf ∧
      ((drifting true).filter 0).offCounts.get .inf = true ∧ ((drifting false).filter 0).drift = false ∧
      ((armed 0).filterConfig 0).tripMask.getLsbD 15 = true ∧ ((armed 0).filter 0).previousWord.getLsbD 15 = false ∧
      (0x8000 : BitVec 16).getLsbD 15 = true ∧
      (∀ j : Fin 16, ((armed 0).filterConfig 0).tripMask.getLsbD j.val = true → j = 15) ∧
      viewOfWord 0x0AA5 = viewIn .service ∧ viewOfWord 0x0AAA = viewIn .isolated ∧
      viewOfWord 0 = PerValve.all .travelling := by
  refine ⟨confirmed _, confirmed _, (nomatch · .inf), (nomatch · .inf), ?_⟩
  unfold Off
  decide +kernel

/-- The second off count flags drift and raises DRIFT; a trip input that goes active isolates filter 1; an answer completes
its movement. -/
theorem test_filter_table :
    (((drifting false).watchDrift 0).filter 0).drift = false ∧ (((drifting true).watchDrift 0).filter 0).drift = true ∧
      (((drifting true).watchDrift 0).nu.accounts[7]).lastFilter = 1 ∧
      filterLook ((armed 0).watchTrip 0 0x8000).1 = ⟨.service, some 15, some ⟨false, 1000, false⟩⟩ ∧
      filterLook ((armed 0x8000).watchTrip 0 0x8000).1 = ⟨.service, none, none⟩ ∧
      filterLook (State.movementAnswer
        (withFirst fun r => { r with
          state := .held, held := some .clean, pending := some ⟨true, 995, true⟩, view := viewIn .service }) 0) =
        ⟨.service, none, none⟩ := by decide +kernel

/-- The evaluation of triggers in `FilterTableActsOnAnswers`: a filter in SERVICE and another, limits with and without a value,
a total clear outstanding. -/
theorem witness_triggers :
    (hold.filter 0).state = .service ∧ (hold.filter 3).state ≠ .service ∧ (hold.filterConfig 0).settings = some settings ∧
      (setupDefaults.filterConfig 0).settings = none ∧
      ((withFirst fun r => { r with totalClear := true }).filter 0).totalClear = true := by decide +kernel

/-- Filter 1 with a turbidity of 50, its limit, and its turbidity trigger in a state. -/
def turbid (c : ConfirmState) : State :=
  let s := withFirst fun r => { r with turbidity := 50 }
  { s with te := { triggers := s.te.triggers.set 0 { Triggers.armed with turbidity := c } } }

/-- What a test looks at in a trigger: the turbidity trigger of filter 1 and the queue. -/
structure TriggerLook where
  turbidity : ConfirmState
  queue     : List EntryLook
deriving DecidableEq, Repr

/-- The look after an evaluation of filter 1's triggers. -/
def triggerLook (c : ConfirmState) (isInput : Bool) : TriggerLook :=
  let t := (turbid c).evalTriggers 0 isInput
  ⟨(t.trig 0).turbidity, queueLook t⟩

/-- The condition arms the confirmation, and gives its request once, when it has held for the confirmation time; a totalizer
answer leaves it alone. -/
theorem test_triggers :
    triggerLook .armed true = ⟨.confirming 1000, []⟩ ∧ triggerLook (.confirming 971) true = ⟨.confirming 971, []⟩ ∧
      triggerLook (.confirming 970) true = ⟨.fired, [⟨0, .breakthrough, 1000⟩]⟩ ∧ triggerLook .fired true = ⟨.fired, []⟩ ∧
      triggerLook .armed false = ⟨.armed, []⟩ := by decide +kernel

/-- A wash whose filter's valves are seen in a pattern. -/
def washSeen (w : WashContext) (p : Pattern) : State := (washing w).modFilter 0 fun r => { r with view := viewIn p }

/-- A wash in the RETURN pseudo-step. -/
def returning (result : RipenResult) (second : Bool) : WashContext :=
  { inPhase .setting 3 5 with ripenResult := result, secondAttempt := second }

/-- A SAFE-EXIT with the items of its snapshot. -/
def safely (cause : Option FaultCause) : WashContext :=
  { exiting .safeExit cause 5 with
    valveItems := some ⟨PerValve.all false, PerValve.all .closed, ⟨false, false, false⟩⟩ }

/-- `WashesEndOnConfirmation`: completion with a rewash to come, at count 1, and with a good result; each exit kind; a
SAFE-EXIT with a cause and without one. -/
theorem witness_WashesEndOnConfirmation :
    (washSeen (returning .unmet false) .service).ctx 0 = some (returning .unmet false) ∧
      (∀ w p, ((washSeen w p).filter 0).state = .wash ∧ ((washSeen w p).filter 0).view = viewIn p ∧
        (washSeen w p).wq.entries = []) ∧
      kindAt (returning .unmet false) (returning .unmet false).stepIndex = none ∧ (∀ p, Confirmed p (viewIn p)) ∧
      (returning .unmet true).secondAttempt = true ∧ (returning .good false).ripenResult ≠ .unmet ∧
      (∀ k, (exiting k none 5).state = .exiting ∧ (exiting k none 5).exitKind = some k) ∧ (safely none).cause = none ∧
      (safely (some .trip)).cause ≠ none ∧ (safely (some .trip)).stepItems = some ⟨1, some .water, .timing, 5⟩ ∧
      (safely (some .trip)).valveItems ≠ none :=
  ⟨rfl, fun _ _ => ⟨rfl, rfl, rfl⟩, rfl, confirmed, rfl, nofun, fun _ => ⟨rfl, rfl⟩, rfl, nofun, rfl, nofun⟩

/-- What a test looks at in the end of a wash. -/
structure EndLook where
  state   : FilterState
  outcome : List (WashOutcome × Option FaultCause)
  queue   : List (FilterId × WashClass)
deriving DecidableEq, Repr

/-- The end of a wash on its confirming answer. -/
def endLook (w : WashContext) (p : Pattern) : EndLook :=
  let t := (washSeen w p).sequencerAnswer 0 false
  ⟨(t.filter 0).state, t.wr.records.map fun r => (r.outcome, r.cause), t.wq.entries.map fun e => (e.filter, e.cls)⟩

/-- The ends of a wash. -/
theorem test_wash_ends :
    endLook (returning .unmet false) .service = ⟨.service, [(.rewash, none)], [(0, .rewash)]⟩ ∧
      endLook (returning .good false) .service = ⟨.service, [(.complete, none)], []⟩ ∧
      endLook { returning .good false with reduced := true } .service = ⟨.service, [(.completeReduced, none)], []⟩ ∧
      endLook (exiting .returnExit (some .hostExit) 5) .service = ⟨.service, [(.returned, some .hostExit)], [(0, .host)]⟩ ∧
      endLook (safely none) .isolated = ⟨.held, [(.ineffective, none)], []⟩ ∧
      endLook (safely (some .trip)) .isolated = ⟨.held, [(.heldExit, some .trip)], []⟩ ∧
      endLook (exiting .lateExit (some .flowLow) 5) .service = ⟨.service, [(.shortRipen, some .flowLow)], []⟩ := by
  decide +kernel

/-- The answers before the end in `WashesEndOnConfirmation`: a FREE slot, an ORPHAN context, each phase of an ACTIVE one, the
pattern of each kind confirmed, a trip. -/
theorem witness_answers_before_the_end :
    hold.ctx 0 = none ∧ (orphaning.ctx 0).map (fun w => w.state) = some .orphan ∧
      (∀ p i, (inPhase p i 5).state = .active ∧ (inPhase p i 5).phase = p) ∧
      kindAt (inPhase .setting 1 5) 1 = some .water ∧ kindAt (inPhase .setting 0 5) 0 = some .drain ∧
      (∀ k, Confirmed (patternOf k) (viewIn (patternOf k))) ∧ ¬ Confirmed .water (viewIn .service) ∧
      (∀ e, (exiting e none 5).exitKind = some e) ∧
      ({ exiting .lateExit none 5 with exitKind := none } : WashContext).exitKind = none :=
  ⟨by decide +kernel, by decide +kernel, fun _ _ => ⟨rfl, rfl⟩, rfl, rfl, fun _ => confirmed _, (nomatch · .inf),
    fun _ => rfl, rfl⟩

/-- What a test looks at in slot 0 after an answer of its filter. -/
structure StepLook where
  phase : Phase
  index : Nat
  kind  : Option ExitKind
  cause : Option FaultCause
deriving DecidableEq, Repr

/-- The look after an answer that shows a pattern. -/
def stepLook (w : WashContext) (p : Pattern) (tripped : Bool) : Option StepLook :=
  (((washSeen w p).sequencerAnswer 0 tripped).ctx 0).map fun w => ⟨w.phase, w.stepIndex, w.exitKind, w.cause⟩

/-- WATER confirmed goes to STARTING; DRAIN at its level goes on to the next step; a valve off twice, and a trip, exit; a trip
converts a LATE-EXIT; a low turbidity that lasted ends RIPEN. -/
theorem test_sequencer_answers :
    stepLook (inPhase .setting 1 5) .water false = some ⟨.starting, 1, none, none⟩ ∧
      stepLook (inPhase .setting 1 5) .service false = some ⟨.setting, 1, none, none⟩ ∧
      stepLook (inPhase .setting 0 5) .drain false = some ⟨.setting, 1, none, none⟩ ∧
      stepLook { inPhase .timing 1 5 with offCounts := PerValve.all true } .service false =
        some ⟨.timing, 1, some .returnExit, some .valveDrift⟩ ∧
      stepLook (inPhase .timing 1 5) .water true = some ⟨.timing, 1, some .safeExit, some .trip⟩ ∧
      stepLook (exiting .lateExit none 5) .isolated true = some ⟨.timing, 1, some .safeExit, some .trip⟩ ∧
      stepLook { inPhase .timing 2 5 with sustainStart := some 100 } .ripen false = some ⟨.setting, 3, none, none⟩ := by
  decide +kernel

/-! ### Invariants -/

/-- A plant second waits. -/
def beforeSecond (s : State) : State := { s with pending := [.plantSecond] }

/-- Every state steps: here the plant second. -/
theorem second_steps (s : State) : ∃ t, step (beforeSecond s) = .next t := ⟨_, rfl⟩

/-- `NodesStayLawful`. -/
theorem witness_NodesStayLawful :
    Safety.NodeLaw (beforeSecond hold) ∧ Safety.LimitLaw (beforeSecond hold) ∧ ∃ t, step (beforeSecond hold) = .next t := by
  refine ⟨?_, ⟨by decide +kernel, by unfold Safety.limitOk; decide +kernel, nofun, nofun⟩, second_steps _⟩
  unfold Safety.NodeLaw Safety.linkOk
  decide +kernel

/-- `NodesStayLawful`, with a survey's poll awaiting its answer. -/
theorem witness_survey_law :
    let s := { awaiting (.filter 0) .readIo with mc := (inMode .survey).mc }
    s.mc.mode = .survey ∧ Safety.SurveyLaw (beforeSecond s) ∧ ∃ t, step (beforeSecond s) = .next t :=
  ⟨rfl, fun _ n code h => by cases (show ScanPhase.awaiting (.filter 0) .readIo = .awaiting n code from h); rfl,
    second_steps _⟩

/-- `NoticesAndRecordsStayLawful`. -/
theorem witness_NoticesAndRecordsStayLawful :
    Safety.AttnLaw (beforeSecond noticed) ∧ Safety.CountLaw (beforeSecond noticed) ∧
      Safety.RecordLaw (beforeSecond noticed) ∧ ∃ t, step (beforeSecond noticed) = .next t := by
  refine ⟨fun _ => by decide +kernel, ?_, ?_, second_steps _⟩
  · unfold Safety.CountLaw
    decide +kernel
  · unfold Safety.RecordLaw
    decide +kernel

/-- `QueueStaysOrdered`, with two entries. -/
theorem witness_QueueStaysOrdered :
    Safety.QueueLaw (beforeSecond queued) ∧ Safety.EntryLaw (beforeSecond queued) ∧
      ∃ t, step (beforeSecond queued) = .next t := by
  refine ⟨?_, ?_, second_steps _⟩
  · unfold Safety.QueueLaw
    decide +kernel
  · unfold Safety.EntryLaw
    decide +kernel

/-- `CommitmentsStayBalanced`, with a wash in progress. -/
theorem witness_CommitmentsStayBalanced :
    Safety.CommitmentLaw (beforeSecond (washing wash)) ∧ ∃ t, step (beforeSecond (washing wash)) = .next t := by
  refine ⟨?_, second_steps _⟩
  unfold Safety.CommitmentLaw
  decide +kernel

/-- Filter 1's wash waits for the wash header, which filter 2's holds. -/
def waiting : State := crowded.beginStep 0 1

/-- `HeadersStayLawful`, with a holder and a waiter of the wash header. -/
theorem witness_HeadersStayLawful :
    HeaderTableLaw (beforeSecond waiting) ∧ ((beforeSecond waiting).header .wash).waiting = [0] ∧
      ∃ t, step (beforeSecond waiting) = .next t := by
  refine ⟨fun h => ?_, by decide +kernel, second_steps _⟩
  cases h
  case wash =>
    refine ⟨by decide +kernel, by decide +kernel, by decide +kernel, by decide +kernel, fun c hc => ?_⟩
    cases (List.mem_singleton.mp ((by decide +kernel : ((beforeSecond waiting).header .wash).waiting = [0]) ▸ hc))
    refine ⟨⟨_, (Option.some_get (by decide +kernel : ((beforeSecond waiting).ctx 0).isSome = true)).symm,
      by decide +kernel, by decide +kernel⟩, by decide +kernel, fun g hg => ?_⟩
    cases g
    case wash => exact absurd rfl hg
    all_goals decide +kernel
  all_goals
    refine ⟨by decide +kernel, by decide +kernel, by decide +kernel, by decide +kernel, fun c hc => ?_⟩
    exact absurd hc (by revert c; decide +kernel)

theorem quiet (s : State) (h : ∀ f : FilterId, (s.filter f).pending = none) (hm : s.mc.mode = .hold) : QuietLaw s :=
  ⟨fun f _ => h f, fun hs => absurd hm (by rcases hs with hs | hs <;> rw [hs] <;> decide)⟩

/-- `WashesStayLawful`, with a wash, and with an orphan. -/
theorem witness_WashesStayLawful :
    ∀ s ∈ [beforeSecond (washing wash), beforeSecond orphaning],
      Safety.WashLaw s ∧ Safety.OrphanLaw s ∧ QuietLaw s ∧ ∃ t, step s = .next t := by
  intro s hs
  have hp : ∀ s ∈ [beforeSecond (washing wash), beforeSecond orphaning],
      Safety.WashLaw s ∧ Safety.OrphanLaw s ∧ (∀ f : FilterId, (s.filter f).pending = none) ∧ s.mc.mode = .hold := by
    unfold Safety.WashLaw Safety.OrphanLaw
    decide +kernel
  obtain ⟨hw, ho, hq, hm⟩ := hp s hs
  refine ⟨hw, ho, quiet s hq hm, ?_⟩
  simp only [List.mem_cons, List.not_mem_nil, or_false] at hs
  rcases hs with rfl | rfl <;> exact second_steps _

/-- A wash in the shed list. -/
def shedding : State :=
  let s := beforeSecond (washing (exiting .lateExit none 5))
  { s with au := { s.au with shed := [0] } }

/-- `SlotsStayWithinLimit`, with a wash in the shed list. -/
theorem witness_SlotsStayWithinLimit :
    Safety.SlotLaw shedding ∧ Safety.ShedLaw shedding ∧ ∃ t, step shedding = .next t := by
  refine ⟨?_, ⟨by decide +kernel, fun c hc => ?_⟩, ⟨_, rfl⟩⟩
  · unfold Safety.SlotLaw
    decide +kernel
  · cases (List.mem_singleton.mp hc)
    exact ⟨_, rfl, rfl, nofun⟩

end Sys2Proof.Tests
end

/-! SUPPORT. Fields in reply bodies, and the answer to a read (R43, R163, R168). -/

namespace Sys2Proof.Claim

open Sys2Proof.Machine

/-! ### Fields in a body -/

/-- A field of a body keeps its place when more bytes follow. -/
theorem HasAt.append_right {body field : List Byte} {k : Nat} (h : HasAt body k field) (fits : k + field.length ≤ body.length)
    (more : List Byte) : HasAt (body ++ more) k field := by
  unfold HasAt at *
  rw [List.drop_append_of_le_length (by omega), List.take_append_of_le_length (by rw [List.length_drop]; omega), h]

/-- A field of a body moves by the bytes put before it. -/
theorem HasAt.append_left {body field before : List Byte} {k pos : Nat} (h : HasAt body k field) (hpos : pos = before.length + k) :
    HasAt (before ++ body) pos field := by
  unfold HasAt at *
  rw [hpos, List.drop_length_add_append, h]

/-- A row of items of `n` bytes each. -/
theorem length_flatMap_of_width {α : Type} {item : α → List Byte} {n : Nat} (width : ∀ a, (item a).length = n) (l : List α) :
    (l.flatMap item).length = n * l.length := by
  induction l with
  | nil => rfl
  | cons x xs ih => rw [List.flatMap_cons, List.length_append, width, ih, List.length_cons, Nat.mul_succ, Nat.add_comm]

/-- In a row of items of `n` bytes, a field at place `k` of item `i` stands at `n * i + k`. -/
theorem HasAt.flatMap {α : Type} {item : α → List Byte} {n k : Nat} {field : List Byte} (width : ∀ a, (item a).length = n)
    (fits : k + field.length ≤ n) {l : List α} {i : Nat} {a : α} (at_i : l[i]? = some a) (h : HasAt (item a) k field) :
    HasAt (l.flatMap item) (n * i + k) field := by
  induction l generalizing i with
  | nil => cases at_i
  | cons x xs ih =>
    rw [List.flatMap_cons]
    cases i with
    | zero =>
      obtain rfl : x = a := Option.some.inj at_i
      rw [Nat.mul_zero, Nat.zero_add]
      exact h.append_right (by rw [width]; exact fits) _
    | succ j =>
      refine (ih (i := j) at_i).append_left ?_
      rw [width, Nat.mul_succ]
      omega

/-! ### Reads -/

/-- A request that its mode accepts and its owning block grants without an effect: the frame is taken, the OK reply formed. -/
theorem receive_read {s : State} {k : Kind} {body b : List Byte} {own : State → Decision} (ready : Ready s)
    (length : body.length = k.bodyLength body) (fits : body.length ≤ 240) (mode : k.accepted s.mc.mode = true)
    (read : own (taken s k body) = accept (taken s k body) b) :
    s.receive k body own = granted (taken s k body) k b :=
  (State.receive_own ready.1 ready.2 length fits mode).trans (congrArg (State.answer _ k) read)

/-! ### QUEUE-READ (R43) -/

theorem queueItem_length (s : State) (e : QueueEntry) : (s.queueItem e).length = 10 := rfl

theorem toIsolated_eq_any (s : State) (f : FilterId) : s.toIsolated f = (s.filter f).pending.any fun m => !m.toService := by
  unfold State.toIsolated
  cases (s.filter f).pending <;> rfl

theorem bitField_pair (a b : Bool) : bitField [a, b] = (if a then 1 else 0) + if b then 2 else 0 := by
  cases a <;> cases b <;> rfl

theorem queueBody_length (s : State) : s.queueBody.length = 3 + 10 * s.wq.entries.length := by
  rw [State.queueBody, List.length_append, length_flatMap_of_width (queueItem_length s)]
  rfl

/-- The three bytes before the items of QUEUE-READ. -/
theorem queueBody_head (s : State) :
    HasAt s.queueBody 0 (be16 s.wq.changeNumber.toNat) ∧ HasAt s.queueBody 2 (be8 s.wq.entries.length) := ⟨rfl, rfl⟩

/-- A field at place `k` of an entry's item stands in the body of QUEUE-READ. -/
theorem queueBody_item {s : State} {i : Nat} {e : QueueEntry} (at_i : s.wq.entries[i]? = some e) (k : Nat) {pos : Nat}
    {field : List Byte} (h : HasAt (s.queueItem e) k field) (fits : k + field.length ≤ 10 := by simp only [be8, be32, List.length_cons, List.length_nil]; decide)
    (hpos : pos = 3 + (10 * i + k) := by omega) : HasAt s.queueBody pos field :=
  (HasAt.flatMap (queueItem_length s) fits at_i h).append_left hpos

/-- The last byte of an item: a movement to ISOLATED, and the rewash pending mark. -/
theorem queueItem_marks (s : State) (e : QueueEntry) :
    HasAt (s.queueItem e) 9 (be8 ((if (s.filter e.filter).pending.any fun m => !m.toService then 1 else 0) +
      if (s.filter e.filter).rewashPending then 2 else 0)) := by
  rw [← toIsolated_eq_any, ← bitField_pair]
  rfl

theorem exec_queueRead {s : State} (ready : Ready s) :
    exec (.queueRead []) s = .next (granted (taken s .queueRead []) .queueRead s.queueBody) :=
  congrArg _ (receive_read ready rfl (Nat.zero_le _) rfl rfl)

/-- Settles O29: each field has its place in an item of ten bytes, and the items follow one another from byte 3 on. -/
theorem queueReadListsTheEntries : Obligations.QueueReadListsTheEntries := by
  intro s ready
  obtain ⟨change, count⟩ := queueBody_head s
  refine ⟨s.queueBody, exec_queueRead ready, queueBody_length s, change, count, fun i e at_i => ?_⟩
  exact ⟨queueBody_item at_i 0 rfl, queueBody_item at_i 1 rfl, queueBody_item at_i 2 rfl, queueBody_item at_i 3 rfl,
    queueBody_item at_i 7 rfl, queueBody_item at_i 8 rfl, queueBody_item at_i 9 (queueItem_marks s e)⟩

end Sys2Proof.Claim

/-! SUPPORT. Requests to the wash queue (R31, R34, R35, R39): what an upgrade changes, and the four ways a request ends. -/

namespace Sys2Proof.Claim

open Sys2Proof.Machine Sys2Proof.Safety

/-! ### Causes and classes -/

@[simp] theorem hasCause_single (cause k : WashCause) : hasCause (CauseSet.single cause) k = decide (k = cause) := by
  cases cause <;> cases k <;> rfl

@[simp] theorem hasCause_union (a b : CauseSet) (k : WashCause) : hasCause (a.union b) k = (hasCause a k || hasCause b k) := by
  cases k <;> rfl

theorem causes_ext {a b : CauseSet} (h : ∀ k, hasCause a k = hasCause b k) : a = b := by
  cases a
  cases b
  rw [CauseSet.mk.injEq]
  exact ⟨h .turbidity, h .rewash, h .headloss, h .host, h .runtime, h .volume⟩

/-- A set of causes stays as it is when a cause that it has joins it. -/
theorem union_single_eq_self {c : CauseSet} {cause : WashCause} (h : hasCause c cause = true) :
    c.union (CauseSet.single cause) = c := by
  refine causes_ext fun k => ?_
  by_cases e : k = cause
  · simp [e, h]
  · simp [e]

theorem classOf_eq_cls (cause : WashCause) : classOf cause = cause.cls := by cases cause <;> rfl

theorem rank_eq_code (c : WashClass) : c.rank = c.code := by cases c <;> rfl

theorem outranks_iff (a b : WashClass) : Outranks a b ↔ a.rank < b.rank := by
  rw [rank_eq_code, rank_eq_code, Outranks]

/-! ### The upgrade of an entry (R35) -/

theorem upgrade_causes (e : QueueEntry) (cause k : WashCause) :
    hasCause (e.upgrade cause).causes k = (hasCause e.causes k || decide (k = cause)) := by
  simp [QueueEntry.upgrade]

theorem upgrade_cls_of_outranks {e : QueueEntry} {cause : WashCause} (h : Outranks (classOf cause) e.cls) :
    (e.upgrade cause).cls = classOf cause := by
  rw [outranks_iff, classOf_eq_cls] at h
  rw [classOf_eq_cls]
  exact if_pos h

theorem upgrade_cls_of_not_outranks {e : QueueEntry} {cause : WashCause} (h : ¬ Outranks (classOf cause) e.cls) :
    (e.upgrade cause).cls = e.cls := by
  rw [outranks_iff, classOf_eq_cls] at h
  exact if_neg h

/-- An upgrade changes nothing exactly when the entry has the cause and the cause's class does not outrank its own. -/
theorem upgrade_eq_self_iff (e : QueueEntry) (cause : WashCause) :
    e.upgrade cause = e ↔ hasCause e.causes cause = true ∧ ¬ Outranks (classOf cause) e.cls := by
  constructor
  · intro h
    refine ⟨?_, fun higher => ?_⟩
    · rw [← h]
      simp [upgrade_causes]
    · have same : classOf cause = e.cls := by rw [← upgrade_cls_of_outranks higher, h]
      exact Nat.lt_irrefl _ (same ▸ higher : Outranks e.cls e.cls)
  · rintro ⟨has, lower⟩
    calc e.upgrade cause
        = ⟨e.filter, (e.upgrade cause).cls, e.causes.union (CauseSet.single cause), e.entryTime⟩ := rfl
      _ = e := by rw [upgrade_cls_of_not_outranks lower, union_single_eq_self has]

/-! ### The ways a request ends -/

theorem queueable_iff (s : State) (f : FilterId) :
    s.queueable f = true ↔ (s.filter f).state = .service ∨ (s.filter f).state = .held := by
  simp [State.queueable]

/-- A request for a filter out of rotation is dropped. -/
theorem request_of_not_queueable {s : State} {f : FilterId} (cause : WashCause) (h : ¬ s.queueable f = true) :
    s.request f cause = s := if_neg h

/-- A request for a filter without an entry puts a new one in. -/
theorem request_of_no_entry {s : State} {f : FilterId} (cause : WashCause) (h : s.queueable f = true)
    (absent : s.entry? f = none) : s.request f cause = s.putEntry ⟨f, cause.cls, CauseSet.single cause, s.now⟩ := by
  simp only [State.request, h, if_true, absent]

/-- A request for a filter with an entry puts the upgraded entry in its place, unless the upgrade changes nothing. -/
theorem request_of_entry {s : State} {f : FilterId} {e : QueueEntry} (cause : WashCause) (h : s.queueable f = true)
    (present : s.entry? f = some e) :
    s.request f cause = if e.upgrade cause = e then s else s.putEntry (e.upgrade cause) := by
  simp only [State.request, h, if_true, present]

theorem entry?_eq_none_iff (s : State) (f : FilterId) : s.entry? f = none ↔ ∀ e ∈ s.wq.entries, e.filter ≠ f := by
  simp [State.entry?]

theorem filter_of_entry? {s : State} {f : FilterId} {e : QueueEntry} (h : s.entry? f = some e) : e.filter = f := by
  simpa using List.find?_some h

/-- Putting an entry in writes the queue alone: the entry joins those of the other filters, and the change number advances. -/
theorem putEntry_spec (s : State) (e : QueueEntry) : ∃ q : List QueueEntry,
    s.putEntry e = { s with wq := { entries := q, changeNumber := s.wq.changeNumber + 1 } } ∧
      ∀ x, x ∈ q ↔ x = e ∨ x ∈ s.wq.entries ∧ x.filter ≠ e.filter :=
  ⟨_, rfl, fun _ => mem_putEntry (s := s)⟩

/-! ### The statement's clauses -/

/-- R34: the entry a request inserts. -/
theorem request_inserts {s : State} {f : FilterId} (cause : WashCause) (h : s.queueable f = true)
    (absent : ∀ e ∈ s.wq.entries, e.filter ≠ f) : ∃ (q : List QueueEntry) (e : QueueEntry),
      s.request f cause = { s with wq := { entries := q, changeNumber := s.wq.changeNumber + 1 } } ∧
      (∀ x, x ∈ q ↔ x = e ∨ x ∈ s.wq.entries) ∧
      e.filter = f ∧ e.cls = classOf cause ∧ e.entryTime = s.mc.seconds ∧
      ∀ k, hasCause e.causes k = decide (k = cause) := by
  rw [request_of_no_entry cause h ((entry?_eq_none_iff s f).2 absent)]
  obtain ⟨q, put, members⟩ := putEntry_spec s ⟨f, cause.cls, CauseSet.single cause, s.now⟩
  refine ⟨q, ⟨f, cause.cls, CauseSet.single cause, s.now⟩, put, fun x => ?_, rfl, (classOf_eq_cls cause).symm, rfl,
    hasCause_single cause⟩
  rw [members x, and_iff_left_of_imp (absent x)]

/-- R35: the entry a request upgrades. -/
theorem request_upgrades {s : State} {f : FilterId} {e : QueueEntry} (cause : WashCause) (h : s.queueable f = true)
    (present : s.entry? f = some e) (changes : hasCause e.causes cause = false ∨ Outranks (classOf cause) e.cls) :
    ∃ (q : List QueueEntry) (n : QueueEntry),
      s.request f cause = { s with wq := { entries := q, changeNumber := s.wq.changeNumber + 1 } } ∧
      (∀ x, x ∈ q ↔ x = n ∨ (x ∈ s.wq.entries ∧ x.filter ≠ f)) ∧
      n.filter = f ∧ n.entryTime = e.entryTime ∧
      (Outranks (classOf cause) e.cls → n.cls = classOf cause) ∧ (¬ Outranks (classOf cause) e.cls → n.cls = e.cls) ∧
      ∀ k, hasCause n.causes k = (hasCause e.causes k || decide (k = cause)) := by
  have changed : e.upgrade cause ≠ e := fun same => by
    obtain ⟨has, lower⟩ := (upgrade_eq_self_iff e cause).1 same
    exact changes.elim (fun lacks => absurd has (by simp [lacks])) lower
  have filter : (e.upgrade cause).filter = f := filter_of_entry? (e := e) present
  rw [request_of_entry cause h present, if_neg changed]
  obtain ⟨q, put, members⟩ := putEntry_spec s (e.upgrade cause)
  exact ⟨q, _, put, filter ▸ members, filter, rfl, upgrade_cls_of_outranks, upgrade_cls_of_not_outranks,
    upgrade_causes e cause⟩

/-- R39: a request that changes nothing leaves the change number. -/
theorem request_unchanged {s : State} {f : FilterId} {e : QueueEntry} {cause : WashCause} (h : s.queueable f = true)
    (present : s.entry? f = some e) (has : hasCause e.causes cause = true) (lower : ¬ Outranks (classOf cause) e.cls) :
    s.request f cause = s := by
  rw [request_of_entry cause h present, if_pos ((upgrade_eq_self_iff e cause).2 ⟨has, lower⟩)]

/-- Settles O50, by the ways a request ends: dropped, inserted, upgraded or without a change. -/
theorem requestsInsertOrUpgrade : Obligations.RequestsInsertOrUpgrade := by
  intro s f cause
  refine ⟨(PlantStep.request s f cause).queue, fun noService noHeld => ?_, fun inRotation => ?_⟩
  · exact request_of_not_queueable cause fun h => ((queueable_iff s f).1 h).elim noService noHeld
  · have h : s.queueable f = true := (queueable_iff s f).2 inRotation
    exact ⟨request_inserts cause h, fun e present => ⟨request_unchanged h present, request_upgrades cause h present⟩⟩

end Sys2Proof.Claim

/-! SUPPORT. The tests of an admission: the model's gates and tests are those of the statements (R52, R53, R55); what each makes
of a START (R59) and of the admission check and its walk (R52, R54, R58). -/

namespace Sys2Proof.Claim

open Sys2Proof.Machine

/-! ### The gates and tests -/

/-- The guard of a test, `!b`, is false when the test is passed. -/
theorem guard_false_of {b : Bool} {p : Prop} (test : b = true ↔ p) (h : p) : ¬ (!b) = true := by
  rw [test.2 h, Bool.not_true]
  exact Bool.false_ne_true

/-- The guard of a test, `!b`, is true when the test fails. -/
theorem guard_true_of_not {b : Bool} {p : Prop} (test : b = true ↔ p) (h : ¬ p) : (!b) = true := by
  rw [Bool.eq_false_iff.2 (mt test.1 h), Bool.not_false]

/-- A filter leaves SERVICE when it is in SERVICE with a movement to ISOLATED in travel. -/
theorem isolating_iff (s : State) (f : FilterId) :
    s.isolating f = true ↔ (s.filter f).state = .service ∧ ((s.filter f).pending.any fun m => !m.toService) = true := by
  unfold State.isolating State.inService
  cases (s.filter f).pending <;> rw [Bool.and_eq_true, decide_eq_true_iff] <;> rfl

theorem leavingCount_eq_isolatingCount (s : State) : leavingCount s = s.isolatingCount := by
  unfold leavingCount State.isolatingCount
  refine congrArg List.length (List.filter_congr fun f _ => ?_)
  rw [Bool.eq_iff_iff, decide_eq_true_iff, isolating_iff]

theorem floorGate_iff (s : State) : s.floorGate = true ↔ FloorGate s := by
  rw [s.floorGate_iff, ← leavingCount_eq_isolatingCount]
  rfl

theorem slotGate_iff (s : State) : s.slotGate = true ↔ SlotGate s := s.slotGate_iff

theorem spacingGate_iff (s : State) : s.spacingGate = true ↔ SpacingGate s := s.spacingGate_iff

theorem supplyGate_iff (s : State) : s.supplyGate = true ↔ SupplyGate s := s.supplyGate_iff

theorem startable_iff (s : State) (f : FilterId) : s.startable f = true ↔ Startable s f := s.startable_iff f

theorem tankNow_eq_tankAvailable (s : State) : tankNow s = s.tankAvailable := by
  unfold tankNow State.tankAvailable
  cases s.gbm.washNode.input <;> rfl

theorem basinNow_eq_basinFree (s : State) : basinNow s = s.basinFree := by
  unfold basinNow State.basinFree
  cases s.gbm.wasteInput <;> rfl

theorem volumeTest_iff (s : State) (steps : List ProfileStep) : s.volumeTest steps = true ↔ VolumeTest s steps := by
  rw [s.volumeTest_iff, ← tankNow_eq_tankAvailable, ← basinNow_eq_basinFree]
  rfl

theorem profileValid_iff (steps : List ProfileStep) : profileValid steps = true ↔ failingIndex steps = none :=
  Option.isNone_iff_eq_none

theorem profileOf_of_names {s : State} {f : FilterId} {n : Nat} {steps : List ProfileStep} (h : Names s f n steps) :
    s.profileOf f = some (n, steps) := by
  obtain ⟨x, settings, rfl, profile⟩ := h
  simp only [State.profileOf, State.filterConfig, State.profile?, settings, profile, Option.map_some]

/-- The FREE slot that an admission takes is the lowest-numbered. -/
theorem freeSlot?_of_lowest {s : State} {c : Slot} (free : s.ctx c = none) (lowest : ∀ d, d < c → s.ctx d ≠ none) :
    s.freeSlot? = some c := by
  have length : allSlots.length = 4 := List.length_finRange
  have slot_at (i : Nat) (h : i < allSlots.length) : allSlots[i] = ⟨i, length ▸ h⟩ := List.getElem_finRange h
  have inside : c.val < allSlots.length := by omega
  refine List.find?_eq_some_iff_getElem.2 ⟨Option.isNone_iff_eq_none.2 free, c.val, inside, slot_at _ _, fun j before => ?_⟩
  rw [slot_at, Bool.not_eq_true', Bool.eq_false_iff, ne_eq, Option.isNone_iff_eq_none]
  exact lowest _ before

/-! ### START (R59) -/

section Start

variable {s : State} {f : FilterId} {n : Nat} {steps : List ProfileStep}

theorem startFilter_of_not_startable (h : ¬ Startable s f) : s.startFilter f = refuse .state :=
  if_pos (guard_true_of_not (startable_iff s f) h)

theorem startFilter_of_invalid {i : Nat} (h : Startable s f) (names : Names s f n steps) (fails : failingIndex steps = some i) :
    s.startFilter f = .error ⟨.invalid, i⟩ := by
  rw [State.startFilter, if_neg (guard_false_of (startable_iff s f) h)]
  simp only [profileOf_of_names names, fails]

/-- A filter that may be started, with a valid profile, comes to the tests from the slot gate on. -/
theorem startFilter_of_valid (h : Startable s f) (names : Names s f n steps) (valid : failingIndex steps = none) :
    s.startFilter f = s.startWith f n steps := by
  rw [State.startFilter, if_neg (guard_false_of (startable_iff s f) h)]
  simp only [profileOf_of_names names, valid]

theorem startWith_of_slots (slot : ¬ SlotGate s) : s.startWith f n steps = refuse .slots :=
  if_pos (guard_true_of_not (slotGate_iff s) slot)

theorem startWith_of_floor (slot : SlotGate s) (floor : ¬ FloorGate s) : s.startWith f n steps = refuse .floor := by
  rw [State.startWith, if_neg (guard_false_of (slotGate_iff s) slot), if_pos (guard_true_of_not (floorGate_iff s) floor)]

theorem startWith_of_supply (slot : SlotGate s) (floor : FloorGate s) (supply : ¬ SupplyGate s) :
    s.startWith f n steps = refuse .supply := by
  rw [State.startWith, if_neg (guard_false_of (slotGate_iff s) slot), if_neg (guard_false_of (floorGate_iff s) floor),
    if_pos (guard_true_of_not (supplyGate_iff s) supply)]

theorem startWith_of_volume (slot : SlotGate s) (floor : FloorGate s) (supply : SupplyGate s) (volume : ¬ VolumeTest s steps) :
    s.startWith f n steps = refuse .volume := by
  rw [State.startWith, if_neg (guard_false_of (slotGate_iff s) slot), if_neg (guard_false_of (floorGate_iff s) floor),
    if_neg (guard_false_of (supplyGate_iff s) supply), if_pos (guard_true_of_not (volumeTest_iff s steps) volume)]

theorem u8_filterByte (f : FilterId) : u8 [filterByte f] 0 = f.val + 1 :=
  (BitVec.toNat_ofNat _ _).trans (Nat.mod_eq_of_lt (by omega))

/-- START outside HOLD. -/
theorem exec_start_mode (ready : Ready s) (mode : s.mc.mode ≠ .hold) (b : Byte) :
    exec (.start [b]) s = .next (refused s .start [b] .mode 0) :=
  congrArg _ (State.receive_mode (k := .start) (body := [b]) ready.1 ready.2 rfl (Nat.le_add_left 1 239) (decide_eq_false mode))

/-- START in HOLD is the decision of its tests, made with the frame taken. -/
theorem exec_start_hold (ready : Ready s) (hold : s.mc.mode = .hold) (b : Byte) :
    exec (.start [b]) s = .next ((taken s .start [b]).answer .start
      (withFilter [b] fun f => (taken s .start [b]).startFilter f)) :=
  congrArg _ (State.receive_own (k := .start) (body := [b]) ready.1 ready.2 rfl (Nat.le_add_left 1 239) (decide_eq_true hold))

theorem exec_start_range (ready : Ready s) (hold : s.mc.mode = .hold) {b : Byte} (h : NoFilter b) :
    exec (.start [b]) s = .next (refused s .start [b] .range 0) := by
  rw [exec_start_hold ready hold, withFilter_none (body := [b]) _ h]
  rfl

theorem exec_start_refused (ready : Ready s) (hold : s.mc.mode = .hold) {r : Reason} {i : Nat}
    (fails : (taken s .start [filterByte f]).startFilter f = .error ⟨r, i⟩) :
    exec (.start [filterByte f]) s = .next (refused s .start [filterByte f] r i) := by
  rw [exec_start_hold ready hold, withFilter_some _ (u8_filterByte f), fails]
  rfl

end Start

/-- Settles O47: each test is made on the state with the frame taken, in which every gate stands as before. -/
theorem startTestsInOrder : Obligations.StartTestsInOrder := by
  intro s ready
  refine ⟨exec_start_mode ready, fun hold b => exec_start_range ready hold, fun hold f => ?_⟩
  refine ⟨fun h => exec_start_refused ready hold (startFilter_of_not_startable h), fun x steps h settings profile => ?_⟩
  have names : Names (taken s .start [filterByte f]) f x.profile steps := ⟨x, settings, rfl, profile⟩
  have stops {r : Reason} (valid : failingIndex steps = none)
      (fails : (taken s .start [filterByte f]).startWith f x.profile steps = refuse r) :
      exec (.start [filterByte f]) s = .next (refused s .start [filterByte f] r 0) :=
    exec_start_refused ready hold ((startFilter_of_valid (s := taken s .start [filterByte f]) h names valid).trans fails)
  exact ⟨fun i fails => exec_start_refused ready hold (startFilter_of_invalid h names fails),
    fun valid slot => stops valid (startWith_of_slots slot),
    fun valid slot floor => stops valid (startWith_of_floor slot floor),
    fun valid slot floor supply => stops valid (startWith_of_supply slot floor supply),
    fun valid slot floor supply _ volume => stops valid (startWith_of_volume slot floor supply volume)⟩

/-! ### The walk of the admission check (R54) -/

section Walk

variable {s : State} {f : FilterId} {n : Nat} {steps : List ProfileStep}

theorem inRotation_iff (st : FilterState) :
    (decide (st = .service) || decide (st = .held)) = true ↔ st = .service ∨ st = .held := by
  rw [Bool.or_eq_true, decide_eq_true_iff, decide_eq_true_iff]

/-- What passes an entry over whose filter may be started: its profile's validity, then the volume test. -/
theorem passOver_of_startable (h : Startable s f) (names : Names s f n steps) :
    s.passOver f = if !profileValid steps then some .profile else if !s.volumeTest steps then some .volume else none := by
  obtain ⟨rotation, trip, drift, link⟩ := h
  simp only [State.passOver, State.isLost, (inRotation_iff _).2 rotation, trip, drift, link, profileOf_of_names names,
    Option.isSome_none, Bool.not_true, Bool.false_eq_true, if_false]

theorem passOver_of_passedOver {r : PassOver} (h : PassedOver s f r) : s.passOver f = some r := by
  cases r with
  | state =>
    obtain ⟨noService, noHeld⟩ := h
    exact if_pos (guard_true_of_not (inRotation_iff _) fun rotation => rotation.elim noService noHeld)
  | trip =>
    obtain ⟨rotation, trip⟩ := h
    rw [State.passOver, if_neg (guard_false_of (inRotation_iff _) rotation), if_pos (Option.isSome_iff_ne_none.2 trip)]
  | drift =>
    obtain ⟨rotation, trip, drift⟩ := h
    simp only [State.passOver, (inRotation_iff _).2 rotation, trip, drift, Option.isSome_none, Bool.not_true,
      Bool.false_eq_true, if_false, if_true]
  | node =>
    obtain ⟨rotation, trip, drift, lost⟩ := h
    simp only [State.passOver, State.isLost, (inRotation_iff _).2 rotation, trip, drift, lost, Option.isSome_none,
      Bool.not_true, Bool.false_eq_true, if_false, if_true]
  | profile =>
    obtain ⟨startable, n, steps, names, invalid⟩ := h
    rw [passOver_of_startable startable names, if_pos (guard_true_of_not (profileValid_iff steps) invalid)]
  | volume =>
    obtain ⟨startable, -, n, steps, names, valid, volume⟩ := h
    rw [passOver_of_startable startable names, if_neg (guard_false_of (profileValid_iff steps) valid),
      if_pos (guard_true_of_not (volumeTest_iff s steps) volume)]

theorem passOver_of_eligible (h : Startable s f) (names : Names s f n steps) (valid : failingIndex steps = none)
    (volume : VolumeTest s steps) : s.passOver f = none := by
  rw [passOver_of_startable h names, if_neg (guard_false_of (profileValid_iff steps) valid),
    if_neg (guard_false_of (volumeTest_iff s steps) volume)]

/-- No entry that is passed over is the one the walk looks for. -/
theorem find?_eligible_of_passedOver {q : List QueueEntry} (h : ∀ x ∈ q, ∃ r, PassedOver s x.filter r) :
    (q.find? fun e => (s.passOver e.filter).isNone) = none := by
  refine List.find?_eq_none.2 fun x member => ?_
  obtain ⟨r, passed⟩ := h x member
  rw [passOver_of_passedOver passed, Option.isNone_some]
  exact Bool.false_ne_true

/-- A walk that passes every entry over reports the queue's first. -/
theorem walk_of_none_eligible {e : QueueEntry} {rest : List QueueEntry} {r : PassOver} (queue : s.wq.entries = e :: rest)
    (first : PassedOver s e.filter r) (others : ∀ x ∈ rest, ∃ q, PassedOver s x.filter q) :
    s.walk = s.setCheck (.noneEligible e.filter r) := by
  have all : ∀ x ∈ e :: rest, ∃ q, PassedOver s x.filter q := List.forall_mem_cons.2 ⟨⟨r, first⟩, others⟩
  simp only [State.walk, State.walkResult, queue, find?_eligible_of_passedOver all, passOver_of_passedOver first]

/-- A walk on an empty queue. -/
theorem walk_of_empty (queue : s.wq.entries = []) : s.walk = s.setCheck .empty := by
  simp only [State.walk, State.walkResult, queue, List.find?_nil]

/-- A walk admits the first entry that is not passed over. -/
theorem walk_of_eligible {ahead rest : List QueueEntry} {e : QueueEntry} {c : Slot} (queue : s.wq.entries = ahead ++ e :: rest)
    (passed : ∀ x ∈ ahead, ∃ q, PassedOver s x.filter q) (eligible : s.passOver e.filter = none)
    (profile : s.profileOf e.filter = some (n, steps)) (slot : s.freeSlot? = some c) :
    s.walk = s.admitFilter e.filter c n steps := by
  have found : (s.wq.entries.find? fun e => (s.passOver e.filter).isNone) = some e := by
    rw [queue, List.find?_append, find?_eligible_of_passedOver passed, Option.none_or,
      List.find?_cons_of_pos (p := fun x : QueueEntry => (s.passOver x.filter).isNone) (Option.isNone_iff_eq_none.2 eligible)]
  simp only [State.walk, found, profile, slot]

end Walk

/-! ### The admission check (R52, R53, R58) -/

section Check

variable {s : State}

theorem admissionCheck_of_gate {r : CheckResult} (h : s.failingGate = some r) : s.admissionCheck = s.setCheck r := by
  simp only [State.admissionCheck, h]

theorem failingGate_floor (floor : ¬ FloorGate s) : s.failingGate = some .floor :=
  if_pos (guard_true_of_not (floorGate_iff s) floor)

theorem failingGate_slots (floor : FloorGate s) (slot : ¬ SlotGate s) : s.failingGate = some .slots := by
  rw [State.failingGate, if_neg (guard_false_of (floorGate_iff s) floor), if_pos (guard_true_of_not (slotGate_iff s) slot)]

theorem failingGate_spacing (floor : FloorGate s) (slot : SlotGate s) (spacing : ¬ SpacingGate s) :
    s.failingGate = some .spacing := by
  rw [State.failingGate, if_neg (guard_false_of (floorGate_iff s) floor), if_neg (guard_false_of (slotGate_iff s) slot),
    if_pos (guard_true_of_not (spacingGate_iff s) spacing)]

theorem failingGate_supply (floor : FloorGate s) (slot : SlotGate s) (spacing : SpacingGate s) (supply : ¬ SupplyGate s) :
    s.failingGate = some .supply := by
  rw [State.failingGate, if_neg (guard_false_of (floorGate_iff s) floor), if_neg (guard_false_of (slotGate_iff s) slot),
    if_neg (guard_false_of (spacingGate_iff s) spacing), if_pos (guard_true_of_not (supplyGate_iff s) supply)]

theorem failingGate_none (floor : FloorGate s) (slot : SlotGate s) (spacing : SpacingGate s) (supply : SupplyGate s) :
    s.failingGate = none := by
  rw [State.failingGate, if_neg (guard_false_of (floorGate_iff s) floor), if_neg (guard_false_of (slotGate_iff s) slot),
    if_neg (guard_false_of (spacingGate_iff s) spacing), if_neg (guard_false_of (supplyGate_iff s) supply)]

/-- With the four gates open the check walks the queue. -/
theorem admissionCheck_of_open (floor : FloorGate s) (slot : SlotGate s) (spacing : SpacingGate s) (supply : SupplyGate s) :
    s.admissionCheck = s.walk := by
  simp only [State.admissionCheck, failingGate_none floor slot spacing supply]

end Check

/-- Settles O49: a closed gate ends the check, and with the gates open the walk ends in one of its three ways. -/
theorem admissionCheckTestsGatesAndWalks : Obligations.AdmissionCheckTestsGatesAndWalks := by
  intro s
  refine ⟨fun floor => admissionCheck_of_gate (failingGate_floor floor),
    fun floor slot => admissionCheck_of_gate (failingGate_slots floor slot),
    fun floor slot spacing => admissionCheck_of_gate (failingGate_spacing floor slot spacing),
    fun floor slot spacing supply => admissionCheck_of_gate (failingGate_supply floor slot spacing supply),
    fun floor slot spacing supply => ?_⟩
  rw [admissionCheck_of_open floor slot spacing supply]
  refine ⟨walk_of_empty, fun e rest r queue first others => walk_of_none_eligible queue first others, ?_⟩
  intro ahead e rest n steps c queue passed startable names valid volume free lowest
  exact walk_of_eligible queue passed (passOver_of_eligible startable names valid volume) (profileOf_of_names names)
    (freeSlot?_of_lowest free lowest)

end Sys2Proof.Claim

/-! SUPPORT. Profiles (R68, R69, R71): the model's tests are those of the statements; a profile has one of three verdicts, and
each verdict fixes the failing index; a planned volume is a product divided by 1000, rounded up. -/

namespace Sys2Proof.Claim

open Sys2Proof.Machine

/-! ### The tests of a step (R68, R69) -/

theorem kind_isWater_iff (p : ProfileStep) : p.kind.isWater = true ↔ IsWater p := by
  unfold IsWater
  cases p.kind <;> simp [StepKind.isWater]

theorem any_isWater_iff (steps : List ProfileStep) :
    (steps.any fun p => p.kind.isWater) = true ↔ ∃ p ∈ steps, IsWater p := by
  simp only [List.any_eq_true, kind_isWater_iff]

/-- The table of R68, kind by kind; only for the water kinds do the model and the statement order the fields differently. -/
theorem fieldsOk_iff (p : ProfileStep) : p.fieldsOk = true ↔ FieldsAllowed p := by
  unfold ProfileStep.fieldsOk FieldsAllowed
  cases p.kind <;> simp only [Bool.and_eq_true, Bool.or_eq_true, decide_eq_true_eq, Bool.not_eq_true', and_assoc]
  case airwater => rw [and_comm (a := _ ∨ _)]
  case water => rw [and_comm (a := _ ∨ _)]

/-- Test 3 of R69 looks at the steps below an index. -/
theorem no_water_below_iff (steps : List ProfileStep) (i : Nat) :
    ((steps.take i).all fun q => q.kind != .water) = true ↔
      ∀ j q, j < i → steps[j]? = some q → q.kind ≠ .water := by
  simp only [List.all_eq_true, List.mem_iff_getElem?, List.getElem?_take, bne_iff_ne]
  refine ⟨fun none_taken j q below at_j => none_taken q ⟨j, (if_pos below).trans at_j⟩, ?_⟩
  rintro none_below q ⟨j, taken⟩
  obtain ⟨below, at_j⟩ := Option.ite_none_right_eq_some.1 taken
  exact none_below j q below at_j

/-- The model writes each test "if a then b" as "not a, or b". -/
theorem stepPasses_iff (steps : List ProfileStep) (i : Nat) (p : ProfileStep) :
    stepPasses steps i p = true ↔ StepPasses steps i p := by
  simp only [stepPasses, StepPasses, Bool.and_eq_true, Bool.or_eq_true, fieldsOk_iff, no_water_below_iff, and_assoc,
    Bool.not_eq_true', Bool.or_eq_false_iff, decide_eq_true_eq, decide_eq_false_iff_not, bne_iff_ne, ne_eq,
    Decidable.imp_iff_not_or, not_or]

/-! ### The first step that fails (R69) -/

theorem passBelow_iff_getElem {steps : List ProfileStep} {n : Nat} (inside : n ≤ steps.length) :
    PassBelow steps n ↔ ∀ j, (h : j < n) → StepPasses steps j steps[j] :=
  ⟨fun pass j h => pass j _ h (List.getElem?_eq_getElem _), fun pass j q h at_j => by
    obtain ⟨_, rfl⟩ := List.getElem?_eq_some_iff.1 at_j
    exact pass j h⟩

/-- A step that fails above steps that all pass is the one the model's search finds. -/
theorem failingIndex_of_fails {steps : List ProfileStep} {i : Nat} {p : ProfileStep} (pass : PassBelow steps i)
    (at_i : steps[i]? = some p) (fails : ¬ StepPasses steps i p) : failingIndex steps = some i := by
  obtain ⟨inside, rfl⟩ := List.getElem?_eq_some_iff.1 at_i
  have found : (steps.zipIdx.find? fun x => !stepPasses steps x.2 x.1) = some (steps[i], i) := by
    refine List.find?_eq_some_iff_getElem.2 ⟨guard_true_of_not (stepPasses_iff steps i _) fails, i, ?_, ?_, fun j below => ?_⟩
    · rwa [List.length_zipIdx]
    · rw [List.getElem_zipIdx, Nat.zero_add]
    · rw [List.getElem_zipIdx, Nat.zero_add, Bool.not_not, stepPasses_iff]
      exact (passBelow_iff_getElem (Nat.le_of_lt inside)).1 pass j below
  rw [failingIndex, found]

/-- When every step passes, only the water step decides. -/
theorem failingIndex_of_pass {steps : List ProfileStep} (pass : PassBelow steps steps.length) :
    failingIndex steps = if steps.any fun p => p.kind.isWater then none else some (steps.length - 1) := by
  have not_found : (steps.zipIdx.find? fun x => !stepPasses steps x.2 x.1) = none := by
    refine List.find?_eq_none.2 fun x mem => guard_false_of (stepPasses_iff steps x.2 x.1) ?_
    have at_x := List.mem_zipIdx_iff_getElem?.1 mem
    exact pass x.2 x.1 (List.getElem?_eq_some_iff.1 at_x).1 at_x
  rw [failingIndex, not_found]

theorem failingIndex_of_wet {steps : List ProfileStep} (pass : PassBelow steps steps.length) (wet : ∃ p ∈ steps, IsWater p) :
    failingIndex steps = none := by
  rw [failingIndex_of_pass pass, if_pos ((any_isWater_iff steps).2 wet)]

theorem failingIndex_of_dry {steps : List ProfileStep} (pass : PassBelow steps steps.length)
    (dry : ∀ p ∈ steps, ¬ IsWater p) : failingIndex steps = some (steps.length - 1) := by
  rw [failingIndex_of_pass pass, if_neg]
  intro wet
  obtain ⟨p, mem, water⟩ := (any_isWater_iff steps).1 wet
  exact dry p mem water

/-- Going up the steps from index 0, either all pass or one is the first to fail. -/
theorem passBelow_or_fails (steps : List ProfileStep) (n : Nat) :
    PassBelow steps n ∨ ∃ i p, PassBelow steps i ∧ steps[i]? = some p ∧ ¬ StepPasses steps i p := by
  induction n with
  | zero => exact .inl fun j _ below => absurd below (Nat.not_lt_zero j)
  | succ n ih =>
    obtain pass | fails := ih
    · by_cases passes_n : ∀ p, steps[n]? = some p → StepPasses steps n p
      · refine .inl fun j q below at_j => ?_
        obtain below_n | rfl := Nat.lt_succ_iff_lt_or_eq.1 below
        · exact pass j q below_n at_j
        · exact passes_n q at_j
      · obtain ⟨p, fails_n⟩ := Classical.not_forall.1 passes_n
        exact .inr ⟨n, p, pass, Classical.not_imp.1 fails_n⟩
    · exact .inr fails

/-- The verdicts on a profile: a first step fails, or all pass and one uses water, or all pass and none does. -/
theorem profile_verdict (steps : List ProfileStep) :
    (∃ i p, PassBelow steps i ∧ steps[i]? = some p ∧ ¬ StepPasses steps i p) ∨
      (PassBelow steps steps.length ∧ ∃ p ∈ steps, IsWater p) ∨
      (PassBelow steps steps.length ∧ ∀ p ∈ steps, ¬ IsWater p) := by
  obtain pass | fails := passBelow_or_fails steps steps.length
  · by_cases wet : ∃ p ∈ steps, IsWater p
    · exact .inr (.inl ⟨pass, wet⟩)
    · exact .inr (.inr ⟨pass, fun p mem water => wet ⟨p, mem, water⟩⟩)
  · exact .inl fails

theorem failingIndex_eq_none_iff (steps : List ProfileStep) :
    failingIndex steps = none ↔ PassBelow steps steps.length ∧ ∃ p ∈ steps, IsWater p := by
  refine ⟨fun valid => ?_, fun ⟨pass, wet⟩ => failingIndex_of_wet pass wet⟩
  obtain ⟨i, p, pass, at_i, fails⟩ | pass_wet | ⟨pass, dry⟩ := profile_verdict steps
  · cases valid.symm.trans (failingIndex_of_fails pass at_i fails)
  · exact pass_wet
  · cases valid.symm.trans (failingIndex_of_dry pass dry)

theorem failingIndex_eq_some_iff {steps : List ProfileStep} (nonempty : steps ≠ []) (i : Nat) :
    failingIndex steps = some i ↔
      (PassBelow steps i ∧ ∃ p, steps[i]? = some p ∧ ¬ StepPasses steps i p) ∨
      (PassBelow steps steps.length ∧ (∀ p ∈ steps, ¬ IsWater p) ∧ i + 1 = steps.length) := by
  have positive : 0 < steps.length := List.length_pos_iff.2 nonempty
  constructor
  · intro invalid
    obtain ⟨j, p, pass, at_j, fails⟩ | ⟨pass, wet⟩ | ⟨pass, dry⟩ := profile_verdict steps
    · obtain rfl : i = j := Option.some.inj (invalid.symm.trans (failingIndex_of_fails pass at_j fails))
      exact .inl ⟨pass, p, at_j, fails⟩
    · cases invalid.symm.trans (failingIndex_of_wet pass wet)
    · have last : i = steps.length - 1 := Option.some.inj (invalid.symm.trans (failingIndex_of_dry pass dry))
      exact .inr ⟨pass, dry, by omega⟩
  · rintro (⟨pass, p, at_i, fails⟩ | ⟨pass, dry, last⟩)
    · exact failingIndex_of_fails pass at_i fails
    · rw [failingIndex_of_dry pass dry, ← last, Nat.add_sub_cancel]

/-! ### The planned volumes (R71) -/

/-- Rounding up: a thousand times the quotient reaches the product, and exceeds it by less than a thousand. -/
theorem ceilDiv_thousand (n : Nat) : n ≤ ceilDiv n 1000 * 1000 ∧ ceilDiv n 1000 * 1000 < n + 1000 := by
  unfold ceilDiv
  omega

theorem plannedWater_of_water {p : ProfileStep} (water : IsWater p) :
    plannedWater p = ceilDiv (p.flowTarget * p.duration) 1000 :=
  if_pos ((kind_isWater_iff p).2 water)

theorem plannedWater_of_not_water {p : ProfileStep} (dry : ¬ IsWater p) : plannedWater p = 0 :=
  if_neg (mt (kind_isWater_iff p).1 dry)

theorem plannedWaste_of_ripen {p : ProfileStep} (rate : Nat) (ripen : p.kind = .ripen) :
    plannedWaste rate p = ceilDiv (rate * p.duration) 1000 :=
  if_pos ripen

theorem plannedWaste_of_not_ripen {p : ProfileStep} (rate : Nat) (other : p.kind ≠ .ripen) :
    plannedWaste rate p = plannedWater p :=
  if_neg other

theorem not_isWater_of_ripen {p : ProfileStep} (ripen : p.kind = .ripen) : ¬ IsWater p := by
  simp [IsWater, ripen]

/-- Settles O35: the three verdicts give the failing index, and the three sorts of step their planned volumes. -/
theorem profilesAreValidatedAndPlanned : Obligations.ProfilesAreValidatedAndPlanned := by
  refine ⟨fun steps nonempty => ⟨failingIndex_eq_none_iff steps, failingIndex_eq_some_iff nonempty⟩,
    fun rate p => ⟨fun water => ?_, fun ripen => ?_, fun dry other => ?_, fun steps => ⟨rfl, rfl⟩⟩⟩
  · obtain ⟨reaches, tight⟩ := ceilDiv_thousand (p.flowTarget * p.duration)
    rw [plannedWater_of_water water]
    exact ⟨reaches, tight, (plannedWaste_of_not_ripen rate fun ripen => not_isWater_of_ripen ripen water).trans
      (plannedWater_of_water water)⟩
  · rw [plannedWaste_of_ripen rate ripen]
    exact ⟨plannedWater_of_not_water (not_isWater_of_ripen ripen), ceilDiv_thousand (rate * p.duration)⟩
  · rw [plannedWaste_of_not_ripen rate other]
    exact ⟨plannedWater_of_not_water dry, plannedWater_of_not_water dry⟩

end Sys2Proof.Claim

/-! SUPPORT. Scans and polls (R143, R146, R148): a scan starts at the first node, and the model's code of a poll is that of the
statement; the kinds of node differ only in which entry of the node table keeps the image sent. -/

namespace Sys2Proof.Claim

open Sys2Proof.Machine

section Scan

variable {s : State}

theorem firstNode_eq_scanStart (s : State) : s.firstNode = scanStart s := by
  unfold State.firstNode scanStart State.filterCount
  cases s.gbm.settings.filterCount <;> rfl

theorem exec_scanPeriodExpiry (running : Running s) : exec .scanPeriodExpiry s = .next s.expirePeriod :=
  congrArg _ (State.whenRunning_of_running running _)

theorem expirePeriod_of_idle (idle : s.gbm.phase = .idle) : s.expirePeriod = s.startScan := by
  rw [State.expirePeriod, idle]

theorem expirePeriod_of_not_idle (busy : s.gbm.phase ≠ .idle) :
    s.expirePeriod = { s with gbm := { s.gbm with periodExpired := true } } := by
  unfold State.expirePeriod
  split
  case h_1 idle => exact absurd idle busy
  case h_2 => rfl

/-! ### The code of a poll (R146) -/

theorem writePermitted_iff (s : State) (f : FilterId) :
    s.writePermitted f = true ↔ s.mc.mode ≠ .survey ∧
      ((s.filter f).state ∈ [.service, .held, .wash, .fault] ∨ ((s.filter f).state = .unknown ∧ (s.filter f).pending ≠ none)) := by
  unfold State.writePermitted
  cases (s.filter f).state <;> simp [Option.isSome_iff_ne_none]

theorem clearPermitted_iff (s : State) (f : FilterId) :
    s.clearPermitted f = true ↔ s.mc.mode ≠ .survey ∧ (s.filter f).state ∈ [.service, .held, .wash, .fault] := by
  unfold State.clearPermitted
  cases (s.filter f).state <;> simp

/-- The survey permits nothing but reads of the inputs; in every other mode the four rules are tried in the same order. -/
theorem filterCode_eq_codeRule (s : State) (f : FilterId) : s.filterCode f = codeRule s (.filter f) := by
  by_cases survey : s.mc.mode = .survey
  · simp [State.filterCode, codeRule, writePermitted_iff, clearPermitted_iff, survey]
  · simp [State.filterCode, codeRule, State.inService, writePermitted_iff, clearPermitted_iff, survey, and_assoc]

theorem pollCode_eq_codeRule (s : State) (n : NodeId) : s.pollCode n = codeRule s n := by
  cases n with
  | filter f => exact filterCode_eq_codeRule s f
  | washWater => simp [State.pollCode, codeRule]
  | airNode => simp [State.pollCode, codeRule]
  | waste => rfl

/-! ### A poll that is due (R143, R148) -/

theorem exec_poll {n : NodeId} (running : Running s) (due : s.gbm.phase = .due n) : exec .poll s = .next (s.sendPoll n) := by
  refine congrArg _ ((State.whenRunning_of_running running _).trans ?_)
  rw [State.pollDue, due]

theorem markSent_of_read {code : PollCode} (read : code ≠ .writeIo) (s : State) (n : NodeId) : s.markSent n code = s :=
  if_neg read

theorem sendPoll_of_read {n : NodeId} (read : codeRule s n ≠ .writeIo) :
    s.sendPoll n = (s.setLink n { s.link n with lastCode := some (codeRule s n) }).setPhase (.awaiting n (codeRule s n)) := by
  rw [State.sendPoll, pollCode_eq_codeRule, markSent_of_read read]

theorem sendPoll_of_write {n : NodeId} (write : codeRule s n = .writeIo) :
    s.sendPoll n =
      ((s.setLink n { s.link n with lastCode := some .writeIo }).markSent n .writeIo).setPhase (.awaiting n .writeIo) := by
  rw [State.sendPoll, pollCode_eq_codeRule, write]

end Scan

/-- Settles O21: the period's expiry by whether a scan is in progress, and a poll by whether its code carries an image. -/
theorem scansAndPolls : Obligations.ScansAndPolls := by
  intro s running
  refine ⟨fun idle => ?_, fun busy => ?_, fun n due => ?_⟩
  · rw [exec_scanPeriodExpiry running, expirePeriod_of_idle idle, State.startScan, firstNode_eq_scanStart]
  · rw [exec_scanPeriodExpiry running, expirePeriod_of_not_idle busy]
  · rw [exec_poll running due]
    by_cases write : codeRule s n = .writeIo
    · rw [sendPoll_of_write write]
      simp only [write]
      cases n <;> rfl
    · rw [sendPoll_of_read write]
      simp only [write, and_false, if_false]
      cases n <;> rfl

end Sys2Proof.Claim

/-! SUPPORT. The laws of filters and contexts, read through the role that each context has: the filter it names and whether
it is an ORPHAN (R12, R19, R74, R109). -/

namespace Sys2Proof.Machine

open Sys2Proof.Safety Sys2Proof.Claim

/-- The filter a context names, and whether the context is ORPHAN; none while the slot is FREE. -/
def State.role (s : State) (c : Slot) : Option (FilterId × Bool) :=
  (s.ctx c).map fun w => (w.filter, decide (w.state = .orphan))

theorem State.role_of_ctx {s : State} {c : Slot} {w : WashContext} (h : s.ctx c = some w) :
    s.role c = some (w.filter, decide (w.state = .orphan)) := by simp [State.role, h]

theorem State.role_eq_none_iff (s : State) (c : Slot) : s.role c = none ↔ s.ctx c = none := by simp [State.role]

theorem names_iff_role (s : State) (c : Slot) (f : FilterId) : names (s.ctx c) f = true ↔ ∃ o, s.role c = some (f, o) := by
  cases h : s.ctx c <;> simp [names, State.role, h]

theorem washing_and_names_iff_role (s : State) (c : Slot) (f : FilterId) :
    (washing (s.ctx c) = true ∧ names (s.ctx c) f = true) ↔ s.role c = some (f, false) := by
  cases h : s.ctx c <;> simp [names, washing, State.role, h, and_comm]

theorem orphanNames_iff_role (s : State) (f : FilterId) : s.orphanNames f = true ↔ ∃ c, s.role c = some (f, true) := by
  simp only [State.orphanNames, allSlots, List.any_eq_true, List.mem_finRange, true_and]
  refine exists_congr fun c => ?_
  cases h : s.ctx c <;> simp [State.role, h]

/-- A state in which an ORPHAN context may leave its filter (R109). -/
def FilterState.orphaned (st : FilterState) : Prop := st = .unknown ∨ st = .fault ∨ st = .localCtl

theorem FilterState.orphaned_ne_wash {st : FilterState} (h : st.orphaned) : st ≠ .wash := by
  rcases h with rfl | rfl | rfl <;> decide

/-- The wash law, the orphan law and the quiet law, in terms of roles. -/
structure WashLaws (s : State) : Prop where
  wash    : ∀ f, (s.filter f).state = .wash ↔ ∃ c, s.role c = some (f, false)
  once    : ∀ c d f o p, s.role c = some (f, o) → s.role d = some (f, p) → c = d
  orphans : ∀ c f, s.role c = some (f, true) → (s.filter f).state.orphaned
  quiet   : ∀ c f o, s.role c = some (f, o) → (s.filter f).pending = none
  modes   : s.mc.mode = .survey ∨ s.mc.mode = .setup → ∀ c, s.role c = none

theorem washLaws_iff (s : State) : WashLaws s ↔ WashLaw s ∧ OrphanLaw s ∧ QuietLaw s := by
  unfold WashLaw OrphanLaw QuietLaw
  simp only [washing_and_names_iff_role]
  simp only [names_iff_role, orphanNames_iff_role, ← State.role_eq_none_iff]
  constructor
  · rintro ⟨wash, once, orphans, quiet, modes⟩
    refine ⟨⟨wash, ?_⟩, ?_, ?_, modes⟩
    · rintro c d f ⟨o, hc⟩ ⟨p, hd⟩
      exact once c d f o p hc hd
    · rintro f ⟨c, hc⟩
      exact orphans c f hc
    · rintro f (h | ⟨c, hc⟩)
      · obtain ⟨c, hc⟩ := (wash f).1 h
        exact quiet c f false hc
      · exact quiet c f true hc
  · rintro ⟨⟨wash, once⟩, orphans, quiet, modes⟩
    refine ⟨wash, fun c d f o p hc hd => once c d f ⟨o, hc⟩ ⟨p, hd⟩, fun c f hc => orphans f ⟨c, hc⟩, ?_, modes⟩
    intro c f o hc
    cases o
    · exact quiet f (.inl ((wash f).2 ⟨c, hc⟩))
    · exact quiet f (.inr ⟨c, hc⟩)

namespace WashLaws

variable {s t : State}

/-- The laws read states, movements, roles and the mode only. -/
theorem congr (h : WashLaws s) (states : ∀ f, (t.filter f).state = (s.filter f).state)
    (movements : ∀ f, (t.filter f).pending = (s.filter f).pending) (roles : ∀ c, t.role c = s.role c)
    (mode : t.mc.mode = s.mc.mode) : WashLaws t where
  wash f := by simp only [states, roles]; exact h.wash f
  once c d f o p := by simp only [roles]; exact h.once c d f o p
  orphans c f := by simp only [states, roles]; exact h.orphans c f
  quiet c f o := by simp only [movements, roles]; exact h.quiet c f o
  modes := by simp only [mode, roles]; exact h.modes

/-- No context names a filter with a movement in travel. -/
theorem unnamed_of_moving (h : WashLaws s) {f : FilterId} (moving : (s.filter f).pending ≠ none) (c : Slot) (o : Bool) :
    s.role c ≠ some (f, o) := fun hc => moving (h.quiet c f o hc)

/-- No context names a filter outside WASH that no ORPHAN names. -/
theorem unnamed_of_no_orphan (h : WashLaws s) {f : FilterId} (dry : (s.filter f).state ≠ .wash)
    (free : s.orphanNames f = false) (c : Slot) (o : Bool) : s.role c ≠ some (f, o) := by
  intro hc
  cases o
  · exact dry ((h.wash f).2 ⟨c, hc⟩)
  · exact Bool.false_ne_true (free.symm.trans ((orphanNames_iff_role s f).2 ⟨c, hc⟩))

/-- No context names a filter in SERVICE or HELD. -/
theorem unnamed_of_queueable (h : WashLaws s) {f : FilterId} (q : s.queueable f = true) (c : Slot) (o : Bool) :
    s.role c ≠ some (f, o) := by
  intro hc
  simp only [State.queueable, Bool.or_eq_true, decide_eq_true_eq] at q
  cases o
  · have := (h.wash f).2 ⟨c, hc⟩
    rw [this] at q
    simp at q
  · rcases h.orphans c f hc with e | e | e <;> rw [e] at q <;> simp at q

/-- A filter that no context names takes any state but WASH, with any movement. -/
theorem shift_unnamed (h : WashLaws s) {f : FilterId} (free : ∀ c o, s.role c ≠ some (f, o))
    (dry : (t.filter f).state ≠ .wash) (states : ∀ g, g ≠ f → (t.filter g).state = (s.filter g).state)
    (movements : ∀ g, g ≠ f → (t.filter g).pending = (s.filter g).pending) (roles : ∀ c, t.role c = s.role c)
    (mode : t.mc.mode = s.mc.mode) : WashLaws t where
  wash g := by
    by_cases e : g = f
    · subst e
      simp only [dry, roles, false_iff, not_exists]
      exact fun c => free c false
    · simp only [states g e, roles]
      exact h.wash g
  once c d g o p := by simp only [roles]; exact h.once c d g o p
  orphans c g hc := by
    rw [roles] at hc
    rw [states g fun e => free c true (e ▸ hc)]
    exact h.orphans c g hc
  quiet c g o hc := by
    rw [roles] at hc
    rw [movements g fun e => free c o (e ▸ hc)]
    exact h.quiet c g o hc
  modes := by simp only [mode, roles]; exact h.modes

/-- A filter outside WASH takes a state that an orphan may leave it in, without a movement. -/
theorem shift_orphaned (h : WashLaws s) {f : FilterId} (dry : (s.filter f).state ≠ .wash)
    (after : (t.filter f).state.orphaned) (still : (t.filter f).pending = none)
    (states : ∀ g, g ≠ f → (t.filter g).state = (s.filter g).state)
    (movements : ∀ g, g ≠ f → (t.filter g).pending = (s.filter g).pending) (roles : ∀ c, t.role c = s.role c)
    (mode : t.mc.mode = s.mc.mode) : WashLaws t where
  wash g := by
    by_cases e : g = f
    · subst e
      simp only [roles]
      exact iff_of_false (FilterState.orphaned_ne_wash after) fun hc => dry ((h.wash g).2 hc)
    · simp only [states g e, roles]
      exact h.wash g
  once c d g o p := by simp only [roles]; exact h.once c d g o p
  orphans c g hc := by
    rw [roles] at hc
    by_cases e : g = f
    · subst e
      exact after
    · rw [states g e]
      exact h.orphans c g hc
  quiet c g o hc := by
    rw [roles] at hc
    by_cases e : g = f
    · subst e
      exact still
    · rw [movements g e]
      exact h.quiet c g o hc
  modes := by simp only [mode, roles]; exact h.modes

/-- A wash ends: its slot is FREE, and its filter takes another state than WASH. -/
theorem retire (h : WashLaws s) {c : Slot} {f : FilterId} (was : s.role c = some (f, false))
    (dry : (t.filter f).state ≠ .wash) (states : ∀ g, g ≠ f → (t.filter g).state = (s.filter g).state)
    (movements : ∀ g, g ≠ f → (t.filter g).pending = (s.filter g).pending) (gone : t.role c = none)
    (roles : ∀ d, d ≠ c → t.role d = s.role d) (mode : t.mc.mode = s.mc.mode) : WashLaws t := by
  have back : ∀ d g o, t.role d = some (g, o) → s.role d = some (g, o) ∧ g ≠ f := by
    intro d g o hd
    by_cases e : d = c
    · subst e
      simp [gone] at hd
    · rw [roles d e] at hd
      refine ⟨hd, fun k => e ?_⟩
      subst k
      exact h.once d c g o false hd was
  refine ⟨fun g => ?_, fun a b g o p ha hb => h.once a b g o p (back a g o ha).1 (back b g p hb).1,
    fun d g hd => ?_, fun d g o hd => ?_, fun m d => ?_⟩
  · by_cases e : g = f
    · subst e
      simp only [dry, false_iff, not_exists]
      exact fun d hd => (back d g false hd).2 rfl
    · rw [states g e, h.wash g]
      constructor
      · rintro ⟨d, hd⟩
        refine ⟨d, (roles d fun k => e ?_).trans hd⟩
        subst k
        exact congrArg Prod.fst (Option.some.inj (hd.symm.trans was))
      · rintro ⟨d, hd⟩
        exact ⟨d, (back d g false hd).1⟩
  · rw [states g (back d g true hd).2]
    exact h.orphans d g (back d g true hd).1
  · rw [movements g (back d g o hd).2]
    exact h.quiet d g o (back d g o hd).1
  · rw [mode] at m
    exact absurd (h.modes m c) (by simp [was])

/-- A wash is orphaned: its filter is in a state that an orphan may leave it in, without a movement. -/
theorem orphan (h : WashLaws s) {c : Slot} {f : FilterId} (was : s.role c = some (f, false))
    (after : (t.filter f).state.orphaned) (still : (t.filter f).pending = none)
    (states : ∀ g, g ≠ f → (t.filter g).state = (s.filter g).state)
    (movements : ∀ g, g ≠ f → (t.filter g).pending = (s.filter g).pending) (now : t.role c = some (f, true))
    (roles : ∀ d, d ≠ c → t.role d = s.role d) (mode : t.mc.mode = s.mc.mode) : WashLaws t := by
  have back : ∀ d g o, t.role d = some (g, o) → d = c ∧ g = f ∧ o = true ∨ s.role d = some (g, o) ∧ g ≠ f := by
    intro d g o hd
    by_cases e : d = c
    · subst e
      rw [now] at hd
      simp only [Option.some.injEq, Prod.mk.injEq] at hd
      exact .inl ⟨rfl, hd.1.symm, hd.2.symm⟩
    · rw [roles d e] at hd
      refine .inr ⟨hd, fun k => e ?_⟩
      subst k
      exact h.once d c g o false hd was
  refine ⟨fun g => ?_, fun a b g o p ha hb => ?_, fun d g hd => ?_, fun d g o hd => ?_, fun m d => ?_⟩
  · by_cases e : g = f
    · subst e
      refine iff_of_false (FilterState.orphaned_ne_wash after) ?_
      rintro ⟨d, hd⟩
      rcases back d g false hd with ⟨-, -, k⟩ | ⟨-, k⟩
      · exact Bool.false_ne_true k
      · exact k rfl
    · rw [states g e, h.wash g]
      constructor
      · rintro ⟨d, hd⟩
        refine ⟨d, (roles d fun k => e ?_).trans hd⟩
        subst k
        exact congrArg Prod.fst (Option.some.inj (hd.symm.trans was))
      · rintro ⟨d, hd⟩
        rcases back d g false hd with ⟨-, k, -⟩ | ⟨k, -⟩
        · exact absurd k e
        · exact ⟨d, k⟩
  · rcases back a g o ha with ⟨ea, ga, -⟩ | ⟨ka, ga⟩ <;> rcases back b g p hb with ⟨eb, gb, -⟩ | ⟨kb, gb⟩
    · exact ea.trans eb.symm
    · exact absurd ga gb
    · exact absurd gb ga
    · exact h.once a b g o p ka kb
  · rcases back d g true hd with ⟨-, rfl, -⟩ | ⟨k, e⟩
    · exact after
    · rw [states g e]
      exact h.orphans d g k
  · rcases back d g o hd with ⟨-, rfl, -⟩ | ⟨k, e⟩
    · exact still
    · rw [movements g e]
      exact h.quiet d g o k
  · rw [mode] at m
    exact absurd (h.modes m c) (by simp [was])

/-- An ORPHAN context is freed. -/
theorem unorphan (h : WashLaws s) {c : Slot} {f : FilterId} (was : s.role c = some (f, true))
    (states : ∀ g, (t.filter g).state = (s.filter g).state) (movements : ∀ g, (t.filter g).pending = (s.filter g).pending)
    (gone : t.role c = none) (roles : ∀ d, d ≠ c → t.role d = s.role d) (mode : t.mc.mode = s.mc.mode) : WashLaws t := by
  have back : ∀ d g o, t.role d = some (g, o) → s.role d = some (g, o) := by
    intro d g o hd
    rw [← hd, roles d]
    rintro rfl
    simp [gone] at hd
  refine ⟨fun g => ?_, fun a b g o p ha hb => h.once a b g o p (back a g o ha) (back b g p hb),
    fun d g hd => ?_, fun d g o hd => ?_, fun m d => ?_⟩
  · rw [states g, h.wash g]
    constructor
    · rintro ⟨d, hd⟩
      refine ⟨d, (roles d ?_).trans hd⟩
      rintro rfl
      simp [was] at hd
    · rintro ⟨d, hd⟩
      exact ⟨d, back d g false hd⟩
  · rw [states g]
    exact h.orphans d g (back d g true hd)
  · rw [movements g]
    exact h.quiet d g o (back d g o hd)
  · rw [mode] at m
    exact absurd (h.modes m c) (by simp [was])

/-- A wash is admitted into a FREE slot for a filter that no context names. -/
theorem takeIn (h : WashLaws s) {c : Slot} {f : FilterId} (free : s.role c = none) (unnamed : ∀ d o, s.role d ≠ some (f, o))
    (wash : (t.filter f).state = .wash) (still : (t.filter f).pending = none)
    (states : ∀ g, g ≠ f → (t.filter g).state = (s.filter g).state)
    (movements : ∀ g, g ≠ f → (t.filter g).pending = (s.filter g).pending) (now : t.role c = some (f, false))
    (roles : ∀ d, d ≠ c → t.role d = s.role d) (modes : ¬ (t.mc.mode = .survey ∨ t.mc.mode = .setup)) : WashLaws t := by
  have back : ∀ d g o, t.role d = some (g, o) → d = c ∧ g = f ∧ o = false ∨ s.role d = some (g, o) ∧ g ≠ f := by
    intro d g o hd
    by_cases e : d = c
    · subst e
      rw [now] at hd
      simp only [Option.some.injEq, Prod.mk.injEq] at hd
      exact .inl ⟨rfl, hd.1.symm, hd.2.symm⟩
    · rw [roles d e] at hd
      exact .inr ⟨hd, fun k => unnamed d o (k ▸ hd)⟩
  refine ⟨fun g => ?_, fun a b g o p ha hb => ?_, fun d g hd => ?_, fun d g o hd => ?_, fun m => absurd m modes⟩
  · by_cases e : g = f
    · subst e
      exact iff_of_true wash ⟨c, now⟩
    · rw [states g e, h.wash g]
      constructor
      · rintro ⟨d, hd⟩
        refine ⟨d, (roles d ?_).trans hd⟩
        rintro rfl
        simp [free] at hd
      · rintro ⟨d, hd⟩
        rcases back d g false hd with ⟨-, k, -⟩ | ⟨k, -⟩
        · exact absurd k e
        · exact ⟨d, k⟩
  · rcases back a g o ha with ⟨ea, ga, -⟩ | ⟨ka, ga⟩ <;> rcases back b g p hb with ⟨eb, gb, -⟩ | ⟨kb, gb⟩
    · exact ea.trans eb.symm
    · exact absurd ga gb
    · exact absurd gb ga
    · exact h.once a b g o p ka kb
  · rcases back d g true hd with ⟨-, -, k⟩ | ⟨k, e⟩
    · exact absurd k.symm Bool.false_ne_true
    · rw [states g e]
      exact h.orphans d g k
  · rcases back d g o hd with ⟨-, rfl, -⟩ | ⟨k, e⟩
    · exact still
    · rw [movements g e]
      exact h.quiet d g o k

end WashLaws

end Sys2Proof.Machine

/-! SUPPORT. The shared operations of a wash as the statements write them out: a supply at stop, an exit decided, a context
orphaned or freed (R98, R109, R111, R128). -/

namespace Sys2Proof.Claim

open Sys2Proof.Machine Sys2Proof.Safety

section

variable {s : State} {c : Slot} {w : WashContext}

/-! ### Contexts and headers -/

theorem setCtx_self (h : s.ctx c = some w) : s.setCtx c (some w) = s := by
  have same : s.ss.contexts.set c.val (some w) = s.ss.contexts := by
    rw [← h]
    exact Vector.set_getElem_self ..
  simp only [State.setCtx, same]

theorem modCtx_none (h : s.ctx c = none) (g : WashContext → WashContext) : s.modCtx c g = s := by
  have same : s.ss.contexts.set c.val none = s.ss.contexts := by
    rw [← h]
    exact Vector.set_getElem_self ..
  simp only [State.modCtx, State.setCtx, h, Option.map_none, same]

/-- A context that has just been written is read back. -/
theorem ctx_written {t : State} {v : Vector (Option WashContext) 4} {x : Option WashContext}
    (h : t.ss.contexts = v.set c.val x) : t.ctx c = x := by
  simp [State.ctx, h]

/-- Holdings are read from the header table only. -/
theorem holds_congr {s t : State} (same : t.ra.headers = s.ra.headers) (c : Slot) (h : Header) : t.holds c h = s.holds c h := by
  simp only [State.holds, State.header, same]

theorem holds_iff_mem (s : State) (c : Slot) (h : Header) :
    s.holds c h = true ↔ c ∈ (s.header h).holdings.map fun x => x.slot := by
  simp [State.holds]

theorem holds_leaveWaits (s : State) (c d : Slot) (h : Header) : (s.leaveWaits c).holds d h = s.holds d h := by
  simp only [State.holds, State.leaveWaits_holdings]

/-! ### Supplies at stop (R98) -/

/-- A pair at stop, for the context in a slot. -/
theorem stopSupply_eq (h : s.ctx c = some w) (p : SupplyPair) : s.stopSupply c p = supplyAtStop s c w p := by
  cases p
  · exact State.modCtx_some (s := s.writeBlowers ⟨false, false⟩) h _
  · exact State.modCtx_some (s := s.writePumps ⟨false, false, 0⟩) h _

/-- The context `w` with the supplies of the headers it holds at stop. -/
def stoppedContext (s : State) (c : Slot) (w : WashContext) : WashContext :=
  { w with
    airSupply := if s.holds c .air then .stopped else w.airSupply
    washSupply := if s.holds c .wash then .stopped else w.washSupply
    setpoint := if s.holds c .wash then 0 else w.setpoint }

/-- The images of the supplies of the headers that a slot holds, at stop. -/
def stoppedImages (s : State) (c : Slot) : BusMaster :=
  { s.gbm with
    airNode := if s.holds c .air then { s.gbm.airNode with image := ⟨false, false⟩, owed := true } else s.gbm.airNode
    washNode :=
      if s.holds c .wash then { s.gbm.washNode with image := ⟨false, false, 0⟩, owed := true } else s.gbm.washNode }

/-- The supplies of the headers that a context holds, at stop. -/
theorem stopHeld_eq (h : s.ctx c = some w) :
    s.stopHeld c = { inSlot s c (stoppedContext s c w) with gbm := stoppedImages s c } := by
  unfold State.stopHeld stoppedContext stoppedImages
  by_cases a : s.holds c .air = true <;> by_cases b : s.holds c .wash = true
  all_goals simp only [a, b, if_true, if_false, Bool.false_eq_true, stopSupply_eq h]
  · rw [if_pos ((holds_congr (t := supplyAtStop s c w .blowers) rfl c .wash).trans b), stopSupply_eq (ctx_written rfl)]
    simp only [supplyAtStop, inSlot, Vector.set_set]
  · rw [if_neg fun k => b ((holds_congr (t := supplyAtStop s c w .blowers) rfl c .wash).symm.trans k)]
    rfl
  · rfl
  · exact (setCtx_self h).symm

/-! ### Exit decisions (R126 to R128) -/

theorem pattern_eq_exitPattern (k : ExitKind) : k.pattern = exitPattern k := by cases k <;> rfl

theorem exitKindFor_eq_exitBy (p : Progress) (cause : Option FaultCause) : exitKindFor p cause = exitBy p cause := by
  by_cases h : cause = some .trip
  · subst h
    cases p <;> rfl
  · rw [exitKindFor_mark p h]
    cases p <;> cases cause with
    | none => rfl
    | some x => cases x <;> first | rfl | exact absurd rfl h

/-- The acts of an exit decision, taken together. -/
theorem decideExitAs_eq (s : State) (c : Slot) (w : WashContext) (k : ExitKind) (cause : Option FaultCause)
    (valve : Option Valve) : s.decideExitAs c w k cause valve = exitState s c w k cause valve := by
  unfold State.decideExitAs
  dsimp only
  rw [stopHeld_eq ?decided, State.modCtx_some ?stopped, pattern_eq_exitPattern]
  case decided => exact (State.leaveWaits_ctx ..).trans (State.ctx_setCtx_same ..)
  case stopped => exact ctx_written rfl
  simp only [stoppedContext, stoppedImages, holds_leaveWaits]
  simp only [inSlot, State.setCtx, State.leaveWaits_ss, Vector.set_set]
  rfl

theorem decideExit_eq (h : s.ctx c = some w) (active : w.state = .active) (cause : FaultCause) (valve : Option Valve) :
    s.decideExit c (some cause) valve = exitFor s c w cause valve := by
  rw [State.decideExit_active h active, decideExitAs_eq, exitKindFor_eq_exitBy]
  rfl

theorem decideExit_eq_exitIfActive (s : State) (c : Slot) (cause : FaultCause) (valve : Option Valve) :
    s.decideExit c (some cause) valve = exitIfActive s c cause valve := by
  unfold exitIfActive
  cases h : s.ctx c with
  | none => exact State.withCtx_none h _
  | some w =>
    dsimp only
    split
    · exact decideExit_eq h (by assumption) cause valve
    · rename_i inactive
      exact State.decideExit_inactive (fun v hv => by rw [h] at hv; exact Option.some.inj hv ▸ inactive) _ _

/-! ### Steps (R75, R77, R79) -/

theorem kindAt_stepIndex (w : WashContext) : kindAt w w.stepIndex = w.kind? := rfl

theorem pattern_eq_patternOf (w : WashContext) : w.pattern = patternOf w.kind? := by
  unfold WashContext.pattern
  cases w.kind? with
  | none => rfl
  | some k => cases k <;> rfl

theorem needs_eq_headersOf (w : WashContext) : w.needs = headersOf w.kind? := by
  unfold WashContext.needs
  cases w.kind? with
  | none => rfl
  | some k => cases k <;> rfl

theorem progressAtSetting_eq (p : Progress) (k : Option StepKind) :
    progressAtSetting p k =
      if p = .none ∧ (k = some .air ∨ k = some .airwater ∨ k = some .water) then .airwaterBegun else p := by
  cases p <;> cases k with
  | none => rfl
  | some x => cases x <;> rfl

/-- A context enters SETTING of the step it stands at. -/
theorem enterSetting_eq (h : s.ctx c = some w) : s.enterSetting c = enteredSetting s c w := by
  unfold State.enterSetting
  rw [State.withCtx_some h, pattern_eq_patternOf, progressAtSetting_eq]
  rfl

theorem addHolding_eq (s : State) (c : Slot) (h : Header) : s.addHolding c h = grantedHeader s c h := by cases h <;> rfl

theorem addWaiter_eq (s : State) (c : Slot) (h : Header) : s.addWaiter c h = waitingFor s c h := by cases h <;> rfl

theorem dropHolding_eq (s : State) (c : Slot) (h : Header) : s.dropHolding c h = withoutHolding s c h := by cases h <;> rfl

/-! ### Orphans (R109, R111, R137) -/

theorem snapshotOf_some (step : Option StepItems) (c : Slot) :
    snapshotOf step (some (s.captureValves c w)) = step.map (snapshotNow s c w) := by
  cases step <;> rfl

theorem recordWash_eq (s : State) (w : WashContext) (outcome : WashOutcome) (cause second : Option FaultCause)
    (x : Option Snapshot) :
    s.recordWash w outcome cause second x = { s with wr := oneRecord s.wr (recordFor w s.now outcome cause second x) } := rfl

/-- The headers of a table in which a context does not wait and its holdings are ORPHAN. -/
theorem makeOrphan_eq (h : s.ctx c = some w) :
    s.makeOrphan c = { inSlot s c { w with state := .orphan, exitStart := none, windowStart := none, lowFlowStart := none } with
      ra := { s.ra with headers :=
        ⟨orphaned c s.ra.headers.air, orphaned c s.ra.headers.wash, orphaned c s.ra.headers.ftw⟩ } } := by
  unfold State.makeOrphan
  rw [State.modCtx_some ?marked]
  case marked => exact h
  rfl

/-- A wash is orphaned, and freed at once when it holds no header. -/
theorem orphan_eq (h : s.ctx c = some w) (cause : FaultCause) (outcome : WashOutcome) :
    s.orphan c cause outcome = (orphanState s c w cause outcome).freeIfBare c := by
  unfold State.orphan
  rw [State.withCtx_some h, stopHeld_eq h]
  dsimp only
  rw [State.modCtx_some ?stopped, makeOrphan_eq (State.ctx_setCtx_same ..), recordWash_eq, snapshotOf_some]
  case stopped => exact ctx_written rfl
  congr 1
  by_cases e : w.state = .exiting
  · simp only [orphanState, e, decide_true, if_true, inSlot, State.setCtx, Vector.set_set, State.shedRemove]
    rfl
  · simp only [orphanState, e, decide_false, Bool.false_eq_true, if_false, inSlot, State.setCtx, Vector.set_set,
      State.shedRemove]
    rfl

/-- A context whose slot becomes FREE. -/
theorem freeSlot_eq (s : State) (c : Slot) :
    s.freeSlot c =
      let out := fun (e : HeaderEntry) =>
        { holdings := e.holdings.filter fun x => x.slot != c, waiting := e.waiting.filter fun x => x != c : HeaderEntry }
      { s with
        ss := { contexts := s.ss.contexts.set c.val none }
        ra := { s.ra with headers := ⟨out s.ra.headers.air, out s.ra.headers.wash, out s.ra.headers.ftw⟩ } } := by
  simp only [State.freeSlot, State.dropHolding, State.leaveWaits, State.setHeader, State.header, HeaderTable.set, HeaderTable.get,
    State.setCtx]

theorem releaseCommitments_eq (h : s.ctx c = some w) :
    s.releaseCommitments c = { inSlot s c { w with tankRemaining := 0, basinRemaining := 0 } with
      ra := { s.ra with
        tankTotal := s.ra.tankTotal - w.tankRemaining
        basinTotal := s.ra.basinTotal - w.basinRemaining } } := by
  unfold State.releaseCommitments
  rw [State.withCtx_some h]
  simp only [State.commitDelta, Int.add_right_neg, ← Int.sub_eq_add_neg]
  rfl

/-- An ORPHAN context is freed. -/
theorem freeOrphan_eq (h : s.ctx c = some w) : s.freeOrphan c = freedState s c w := by
  unfold State.freeOrphan
  rw [State.withCtx_some h, releaseCommitments_eq h, freeSlot_eq]
  dsimp only
  have test : ((s.filter w.filter).state = .unknown && !s.isLost (.filter w.filter)) = true ↔
      (s.filter w.filter).state = .unknown ∧ (s.link (.filter w.filter)).lost = false := by
    simp [State.isLost]
  unfold freedState
  by_cases k : (s.filter w.filter).state = .unknown ∧ (s.link (.filter w.filter)).lost = false
  · rw [if_pos k]
    refine (if_pos (test.2 k)).trans ?_
    simp only [inSlot, Vector.set_set]
    rfl
  · rw [if_neg k]
    refine (if_neg (mt test.1 k)).trans ?_
    simp only [inSlot, Vector.set_set]

theorem holdsAny_eq_false_iff (s : State) (c : Slot) :
    s.holdsAny c = false ↔ ∀ h ∈ [Header.air, .wash, .ftw], s.holds c h = false := by
  simp [State.holdsAny, allHeaders]

theorem freeIfBare_eq (s : State) (c : Slot) : s.freeIfBare c = freedWhenBare s c := by
  unfold State.freeIfBare freedWhenBare State.ctxIs
  cases h : s.ctx c with
  | none => simp
  | some w =>
    simp only [Bool.and_eq_true, decide_eq_true_eq, Bool.not_eq_true', holdsAny_eq_false_iff, freeOrphan_eq h]

end

end Sys2Proof.Claim

/-! SUPPORT. What notices, the floor, the queue and a change of filter state write, and nothing else (R36, R49, R171). -/

namespace Sys2Proof.Machine

open Sys2Proof.Safety Sys2Proof.Claim

/-! ### What an operation writes -/

theorem State.raise_eq (s : State) (k : NoticeKind) (n : Nat) : s.raise k n = { s with nu := (s.raise k n).nu } := by
  unfold State.raise
  split <;> rfl

theorem State.evalFloorNow_eq (s : State) :
    s.evalFloorNow =
      { s with au := { s.au with breach := s.evalFloorNow.au.breach }, nu := s.evalFloorNow.nu } := by
  unfold State.evalFloorNow
  split
  · rfl
  · rw [State.raise_eq]
    rfl

theorem State.evalFloor_eq (s : State) :
    s.evalFloor = { s with au := { s.au with breach := s.evalFloor.au.breach }, nu := s.evalFloor.nu } := by
  unfold State.evalFloor
  split
  · rfl
  · exact s.evalFloorNow_eq

theorem State.removeEntry_eq (s : State) (f : FilterId) : s.removeEntry f = { s with wq := (s.removeEntry f).wq } := by
  unfold State.removeEntry
  split <;> rfl

theorem State.request_eq (s : State) (f : FilterId) (x : WashCause) : s.request f x = { s with wq := (s.request f x).wq } := by
  unfold State.request
  split
  · split
    · rfl
    · split <;> rfl
  · rfl

theorem State.modFilter_self {s : State} {f : FilterId} {g : FilterRecord → FilterRecord} (h : g (s.filter f) = s.filter f) :
    s.modFilter f g = s := by
  have same : s.ft.records.set f.val (s.filter f) = s.ft.records := Vector.set_getElem_self ..
  unfold State.modFilter State.setFilter
  rw [h, same]

/-- A change of state writes the state, the triggers, the queue, the floor state and the notices. -/
theorem State.changeState_eq (s : State) (f : FilterId) (st : FilterState) :
    s.changeState f st =
      { s.modFilter f fun r => { r with state := st } with
        te := (s.changeState f st).te
        wq := (s.changeState f st).wq
        au := { s.au with breach := (s.changeState f st).au.breach }
        nu := (s.changeState f st).nu } := by
  by_cases h : (s.filter f).state = st
  · have same : (s.modFilter f fun r => { r with state := st }) = s := State.modFilter_self (by rw [← h])
    unfold State.changeState
    rw [if_pos h, same]
  · unfold State.changeState
    rw [if_neg h]
    dsimp only
    rw [State.evalFloor_eq]
    cases st.discardsEntry <;> cases s.inService f
    all_goals simp only [if_true, if_false, Bool.false_eq_true]
    all_goals first | rfl | (rw [State.removeEntry_eq]; rfl)

theorem State.changeState_filter_same (s : State) (f : FilterId) (st : FilterState) :
    (s.changeState f st).filter f = { s.filter f with state := st } := by
  rw [State.changeState_eq]
  exact State.filter_setFilter_same ..

theorem State.changeState_filter_ne (s : State) {f g : FilterId} (h : f ≠ g) (st : FilterState) :
    (s.changeState f st).filter g = s.filter g := by
  rw [State.changeState_eq]
  exact State.filter_setFilter_ne s _ h

theorem State.changeState_ss (s : State) (f : FilterId) (st : FilterState) : (s.changeState f st).ss = s.ss := by
  rw [State.changeState_eq]
  rfl

theorem State.changeState_ra (s : State) (f : FilterId) (st : FilterState) : (s.changeState f st).ra = s.ra := by
  rw [State.changeState_eq]
  rfl

theorem State.changeState_gbm (s : State) (f : FilterId) (st : FilterState) : (s.changeState f st).gbm = s.gbm := by
  rw [State.changeState_eq]
  rfl

theorem State.changeState_mc (s : State) (f : FilterId) (st : FilterState) : (s.changeState f st).mc = s.mc := by
  rw [State.changeState_eq]
  rfl

theorem State.changeState_cs (s : State) (f : FilterId) (st : FilterState) : (s.changeState f st).cs = s.cs := by
  rw [State.changeState_eq]
  rfl

theorem State.changeState_wr (s : State) (f : FilterId) (st : FilterState) : (s.changeState f st).wr = s.wr := by
  rw [State.changeState_eq]
  rfl

theorem State.changeState_shed (s : State) (f : FilterId) (st : FilterState) : (s.changeState f st).au.shed = s.au.shed := by
  rw [State.changeState_eq]

theorem State.filter_modFilter_same (s : State) (f : FilterId) (g : FilterRecord → FilterRecord) :
    (s.modFilter f g).filter f = g (s.filter f) := State.filter_setFilter_same ..

theorem State.filter_modFilter_ne (s : State) {f g : FilterId} (h : f ≠ g) (k : FilterRecord → FilterRecord) :
    (s.modFilter f k).filter g = s.filter g := State.filter_setFilter_ne s _ h

end Sys2Proof.Machine

/-! SUPPORT. The laws of counts, commitments, entries, washes, slots, the shed list and the header table, and which changes of
the state keep them: `Keeps s t` says that `t` obeys each of these laws that `s` obeys. One lemma for each operation. -/

namespace Sys2Proof.Machine

open Sys2Proof.Safety Sys2Proof.Claim

/-! ### The laws, context by context -/

/-- A context that may stand in the shed list (R63). -/
def ShedOk (x : Option WashContext) : Prop := ∃ w, x = some w ∧ w.state = .exiting ∧ w.exitKind ≠ some .safeExit

/-- A context that may stand in a wait list: ACTIVE in ACQUIRE (R94). -/
def Asking (x : Option WashContext) : Prop := ∃ w, x = some w ∧ w.state = .active ∧ w.phase = .acquire

theorem ShedOk.not_active {x : Option WashContext} {w : WashContext} (h : x = some w) (active : w.state = .active) :
    ¬ ShedOk x := by
  rintro ⟨v, hv, e, -⟩
  rw [h] at hv
  rw [← Option.some.inj hv, active] at e
  exact nomatch e

/-- A slot stands in no wait list. -/
def Unlisted (s : State) (c : Slot) : Prop := ∀ h, c ∉ (s.header h).waiting

theorem unlisted_of_not_asking {s : State} (law : HeaderTableLaw s) {c : Slot} (h : ¬ Asking (s.ctx c)) : Unlisted s c :=
  fun g m => h ((law g).2.2.2.2 c m).1

theorem busySlots_le {s t : State} (h : ∀ c, s.ctx c = none → t.ctx c = none) : t.busySlots ≤ s.busySlots := by
  unfold State.busySlots
  rw [← List.countP_eq_length_filter, ← List.countP_eq_length_filter]
  refine List.countP_mono_left fun c _ hc => ?_
  cases e : s.ctx c with
  | some w => rfl
  | none => rw [h c e] at hc; exact hc

theorem slotLaw_of {s t : State} (law : SlotLaw s) (free : ∀ c, s.ctx c = none → t.ctx c = none)
    (mode : t.mc.mode = s.mc.mode) (maxOut : t.plant.maxOut = s.plant.maxOut) : SlotLaw t := by
  have le := busySlots_le free
  refine ⟨?_, fun m => ?_⟩
  · rw [maxOut]
    exact Nat.le_trans le law.1
  · exact Nat.le_zero.1 (Nat.le_trans le (Nat.le_zero.2 (law.2 (mode ▸ m))))

theorem shedLaw_of {s t : State} (law : ShedLaw s) (sub : t.au.shed.Sublist s.au.shed)
    (ok : ∀ c ∈ t.au.shed, ShedOk (s.ctx c) → ShedOk (t.ctx c)) : ShedLaw t :=
  ⟨law.1.sublist sub, fun c m => ok c m (law.2 c (sub.mem m))⟩

theorem entryLaw_of {s t : State} (law : EntryLaw s) (sub : ∀ e ∈ t.wq.entries, e ∈ s.wq.entries)
    (states : ∀ f, (t.filter f).state = (s.filter f).state) : EntryLaw t := by
  intro e m
  have := law e (sub e m)
  unfold State.queueable at *
  rwa [states]

/-- A sum over the contexts, after a change of one of them. -/
theorem sumSlots_change {s t : State} {c : Slot} (others : ∀ d, d ≠ c → t.ctx d = s.ctx d)
    (g : Option WashContext → Int) : sumSlots t g = sumSlots s g + (g (t.ctx c) - g (s.ctx c)) := by
  unfold sumSlots
  have h := fun d (e : d ≠ c) => others d e
  have slots : ∀ d : Slot, d = 0 ∨ d = 1 ∨ d = 2 ∨ d = 3 := by decide
  rcases slots c with rfl | rfl | rfl | rfl
  · rw [h 1 (by decide), h 2 (by decide), h 3 (by decide)]
    omega
  · rw [h 0 (by decide), h 2 (by decide), h 3 (by decide)]
    omega
  · rw [h 0 (by decide), h 1 (by decide), h 3 (by decide)]
    omega
  · rw [h 0 (by decide), h 1 (by decide), h 2 (by decide)]
    omega

/-- The commitments of one context and the totals change by the same amounts. -/
theorem commitmentLaw_of {s t : State} (law : CommitmentLaw s) {c : Slot} (others : ∀ d, d ≠ c → t.ctx d = s.ctx d)
    (tank : t.ra.tankTotal - s.ra.tankTotal = tankOf (t.ctx c) - tankOf (s.ctx c))
    (basin : t.ra.basinTotal - s.ra.basinTotal = basinOf (t.ctx c) - basinOf (s.ctx c)) : CommitmentLaw t := by
  obtain ⟨ht, hb⟩ := law
  unfold CommitmentLaw
  rw [sumSlots_change others, sumSlots_change others]
  omega

/-- The header table after holdings and waiters have left it. -/
theorem headerTableLaw_of {s t : State} (law : HeaderTableLaw s)
    (holdings : ∀ h, ((t.header h).holdings.map fun x => x.slot).Sublist ((s.header h).holdings.map fun x => x.slot))
    (waiting : ∀ h, (t.header h).waiting.Sublist (s.header h).waiting)
    (alive : ∀ h c, t.holds c h = true → s.ctx c ≠ none → t.ctx c ≠ none)
    (asking : ∀ h, ∀ c ∈ (t.header h).waiting, Asking (s.ctx c) → Asking (t.ctx c)) : HeaderTableLaw t := by
  have back : ∀ c h, t.holds c h = true → s.holds c h = true := fun c h k =>
    (holds_iff_mem s c h).2 ((holdings h).mem ((holds_iff_mem t c h).1 k))
  intro h
  obtain ⟨capacity, once, waitOnce, holders, waiters⟩ := law h
  refine ⟨?_, once.sublist (holdings h), waitOnce.sublist (waiting h), fun c k => alive h c k (holders c (back c h k)), ?_⟩
  · have := (holdings h).length_le
    rw [List.length_map, List.length_map] at this
    exact Nat.le_trans this capacity
  · intro c m
    obtain ⟨ask, free, only⟩ := waiters c ((waiting h).mem m)
    refine ⟨asking h c m ask, Bool.eq_false_iff.2 fun k => ?_, fun g e k => only g e ((waiting g).mem k)⟩
    rw [back c h k] at free
    exact nomatch free

/-! ### Changes that keep the laws -/

/-- Every law but that of the header table is kept. -/
structure Sound (s t : State) : Prop where
  counts      : CountLaw s → CountLaw t
  commitments : CommitmentLaw s → CommitmentLaw t
  entries     : EntryLaw s → EntryLaw t
  washes      : WashLaws s → WashLaws t
  slots       : SlotLaw s → SlotLaw t
  shed        : ShedLaw s → ShedLaw t

/-- Every law is kept. -/
structure Keeps (s t : State) : Prop extends Sound s t where
  headers : HeaderTableLaw s → HeaderTableLaw t

/-- What the laws read is unchanged, but for the context in one slot, the header table, and the queue as far as the law of
its entries stays. -/
structure Beside (c : Slot) (s t : State) : Prop where
  states    : ∀ f, (t.filter f).state = (s.filter f).state
  movements : ∀ f, (t.filter f).pending = (s.filter f).pending
  others    : ∀ d, d ≠ c → t.ctx d = s.ctx d
  tank      : t.ra.tankTotal = s.ra.tankTotal
  basin     : t.ra.basinTotal = s.ra.basinTotal
  shed      : t.au.shed = s.au.shed
  mode      : t.mc.mode = s.mc.mode
  maxOut    : t.plant.maxOut = s.plant.maxOut
  entries   : EntryLaw s → EntryLaw t
  counts    : CountLaw s → CountLaw t

/-- What the laws read is unchanged, but for the queue as far as the law of its entries stays. -/
structure Calm (s t : State) : Prop where
  states    : ∀ f, (t.filter f).state = (s.filter f).state
  movements : ∀ f, (t.filter f).pending = (s.filter f).pending
  ss        : t.ss = s.ss
  headers   : t.ra.headers = s.ra.headers
  tank      : t.ra.tankTotal = s.ra.tankTotal
  basin     : t.ra.basinTotal = s.ra.basinTotal
  shed      : t.au.shed = s.au.shed
  mode      : t.mc.mode = s.mc.mode
  maxOut    : t.plant.maxOut = s.plant.maxOut
  entries   : EntryLaw s → EntryLaw t
  counts    : CountLaw s → CountLaw t

namespace Sound

theorem refl (s : State) : Sound s s := ⟨id, id, id, id, id, id⟩

theorem trans {s t u : State} (h : Sound s t) (k : Sound t u) : Sound s u :=
  ⟨k.counts ∘ h.counts, k.commitments ∘ h.commitments, k.entries ∘ h.entries, k.washes ∘ h.washes, k.slots ∘ h.slots,
    k.shed ∘ h.shed⟩

/-- The context in a slot changes, and the role and the commitments it has stay. -/
theorem of_beside {s t : State} {c : Slot} (b : Beside c s t) (role : t.role c = s.role c)
    (tank : tankOf (t.ctx c) = tankOf (s.ctx c)) (basin : basinOf (t.ctx c) = basinOf (s.ctx c))
    (shed : c ∈ s.au.shed → ShedOk (s.ctx c) → ShedOk (t.ctx c)) : Sound s t where
  counts := b.counts
  commitments law := commitmentLaw_of law b.others (by rw [b.tank, tank]; omega) (by rw [b.basin, basin]; omega)
  entries := b.entries
  washes law := law.congr b.states b.movements (fun d => by
    by_cases e : d = c
    · rw [e, role]
    · unfold State.role
      rw [b.others d e]) b.mode
  slots law := slotLaw_of law (fun d free => by
    by_cases e : d = c
    · subst e
      rwa [← State.role_eq_none_iff, role, State.role_eq_none_iff]
    · rwa [b.others d e]) b.mode b.maxOut
  shed law := shedLaw_of law (by simp only [b.shed, List.Sublist.refl]) fun d m ok => by
    by_cases e : d = c
    · rw [b.shed, e] at m
      rw [e] at ok ⊢
      exact shed m ok
    · rwa [b.others d e]

end Sound

namespace Calm

variable {s t u : State}

theorem refl (s : State) : Calm s s := ⟨fun _ => rfl, fun _ => rfl, rfl, rfl, rfl, rfl, rfl, rfl, rfl, id, id⟩

theorem trans (h : Calm s t) (k : Calm t u) : Calm s u :=
  ⟨fun f => (k.states f).trans (h.states f), fun f => (k.movements f).trans (h.movements f), k.ss.trans h.ss,
    k.headers.trans h.headers, k.tank.trans h.tank, k.basin.trans h.basin, k.shed.trans h.shed, k.mode.trans h.mode,
    k.maxOut.trans h.maxOut, k.entries ∘ h.entries, k.counts ∘ h.counts⟩

theorem ite {p : Prop} [Decidable p] (h : Calm s t) (k : Calm s u) : Calm s (if p then t else u) := by
  split <;> assumption

theorem ctx (h : Calm s t) (c : Slot) : t.ctx c = s.ctx c := by
  unfold State.ctx
  rw [h.ss]

theorem role (h : Calm s t) (c : Slot) : t.role c = s.role c := by
  unfold State.role
  rw [h.ctx]

theorem header (h : Calm s t) (g : Header) : t.header g = s.header g := by
  unfold State.header
  rw [h.headers]

/-- The filter table, the contexts, the header table, the queue, the shed list, the notices and the settings stay. -/
theorem of_eq (ft : t.ft = s.ft) (ss : t.ss = s.ss) (headers : t.ra.headers = s.ra.headers)
    (tank : t.ra.tankTotal = s.ra.tankTotal) (basin : t.ra.basinTotal = s.ra.basinTotal) (shed : t.au.shed = s.au.shed)
    (mode : t.mc.mode = s.mc.mode) (maxOut : t.plant.maxOut = s.plant.maxOut) (wq : t.wq.entries = s.wq.entries)
    (nu : t.nu.accounts = s.nu.accounts) : Calm s t := by
  have states : ∀ f, t.filter f = s.filter f := fun f => by
    unfold State.filter
    rw [ft]
  refine ⟨fun f => by rw [states], fun f => by rw [states], ss, headers, tank, basin, shed, mode, maxOut, fun law => ?_,
    fun law => ?_⟩
  · exact entryLaw_of law (fun e m => wq ▸ m) fun f => by rw [states]
  · unfold CountLaw
    rw [nu]
    exact law

theorem beside (h : Calm s t) (c : Slot) : Beside c s t :=
  ⟨h.states, h.movements, fun d _ => h.ctx d, h.tank, h.basin, h.shed, h.mode, h.maxOut, h.entries, h.counts⟩

theorem sound (h : Calm s t) : Sound s t :=
  Sound.of_beside (h.beside 0) (h.role 0) (by rw [h.ctx]) (by rw [h.ctx]) (by rw [h.ctx]; exact fun _ => id)

theorem keeps (h : Calm s t) : Keeps s t where
  toSound := h.sound
  headers law := headerTableLaw_of law (fun g => by simp only [h.header, List.Sublist.refl]) (fun g => by simp only [h.header, List.Sublist.refl])
    (fun _ c _ k => by rwa [h.ctx]) (fun _ c _ k => by rwa [h.ctx])

/-! ### Calm updates -/

theorem setFilter {f : FilterId} {r : FilterRecord} (state : r.state = (s.filter f).state)
    (pending : r.pending = (s.filter f).pending) : Calm s (s.setFilter f r) := by
  have states : ∀ g, ((s.setFilter f r).filter g).state = (s.filter g).state := fun g => by
    rw [State.filter_setFilter]
    split
    · rename_i e
      rw [state, e]
    · rfl
  refine ⟨states, fun g => ?_, rfl, rfl, rfl, rfl, rfl, rfl, rfl, fun law => entryLaw_of law (fun _ m => m) states, id⟩
  rw [State.filter_setFilter]
  split
  · rename_i e
    rw [pending, e]
  · rfl

/-- A change of a filter record that leaves its state and its movement. -/
theorem modFilter (s : State) (f : FilterId) {g : FilterRecord → FilterRecord}
    (h : (g (s.filter f)).state = (s.filter f).state ∧ (g (s.filter f)).pending = (s.filter f).pending) :
    Calm s (s.modFilter f g) := setFilter h.1 h.2

theorem setTrig (s : State) (f : FilterId) (t : Triggers) : Calm s (s.setTrig f t) :=
  of_eq rfl rfl rfl rfl rfl rfl rfl rfl rfl rfl

theorem setFnode (s : State) (f : FilterId) (n : FilterNode) : Calm s (s.setFnode f n) :=
  of_eq rfl rfl rfl rfl rfl rfl rfl rfl rfl rfl

theorem writeImage (s : State) (f : FilterId) (i : PerValve Bool) : Calm s (s.writeImage f i) := setFnode _ _ _

theorem writePumps (s : State) (i : PumpImage) : Calm s (s.writePumps i) := of_eq rfl rfl rfl rfl rfl rfl rfl rfl rfl rfl

theorem writeBlowers (s : State) (i : BlowerImage) : Calm s (s.writeBlowers i) :=
  of_eq rfl rfl rfl rfl rfl rfl rfl rfl rfl rfl

theorem setDuty (s : State) (p : SupplyPair) (u : UnitId) : Calm s (s.setDuty p u) := by
  cases p <;> exact of_eq rfl rfl rfl rfl rfl rfl rfl rfl rfl rfl

theorem setUnitFault (s : State) (p : SupplyPair) (u : UnitId) (v : Bool) : Calm s (s.setUnitFault p u v) := by
  cases p <;> exact of_eq rfl rfl rfl rfl rfl rfl rfl rfl rfl rfl

theorem writeUnits (s : State) (p : SupplyPair) (r : UnitSet) : Calm s (s.writeUnits p r) := by
  cases p
  · exact writeBlowers _ _
  · exact writePumps _ _

theorem writeStop (s : State) (p : SupplyPair) : Calm s (s.writeStop p) := by
  cases p
  · exact writeBlowers _ _
  · exact writePumps _ _

theorem setCheck (s : State) (r : CheckResult) : Calm s (s.setCheck r) := of_eq rfl rfl rfl rfl rfl rfl rfl rfl rfl rfl

theorem setFree (s : State) (n : Nat) : Calm s { s with free := n } := of_eq rfl rfl rfl rfl rfl rfl rfl rfl rfl rfl

theorem drawIf (s : State) (b : Bool) : Calm s (s.drawIf b) := ite (setFree _ _) (refl s)

theorem noteAdmission (s : State) (f : FilterId) : Calm s (s.noteAdmission f) := of_eq rfl rfl rfl rfl rfl rfl rfl rfl rfl rfl

theorem writeRecord (s : State) (r : WashRecord) : Calm s (s.writeRecord r) := of_eq rfl rfl rfl rfl rfl rfl rfl rfl rfl rfl

theorem recordWash (s : State) (w : WashContext) (o : WashOutcome) (a b : Option FaultCause) (x : Option Snapshot) :
    Calm s (s.recordWash w o a b x) := writeRecord _ _

/-- A change of the notices that keeps the counts. -/
theorem notices {u : NoticeUnit} (h : CountLaw s → CountLaw { s with nu := u }) : Calm s { s with nu := u } :=
  ⟨fun _ => rfl, fun _ => rfl, rfl, rfl, rfl, rfl, rfl, rfl, rfl, id, h⟩

theorem occur_count_le (a : NoticeAccount) (n : Nat) (h : a.count ≤ 255) : (a.occur n).count ≤ 255 := by
  unfold NoticeAccount.occur
  dsimp only
  split <;> omega

theorem raise (s : State) (k : NoticeKind) (n : Nat) : Calm s (s.raise k n) := by
  unfold State.raise
  split
  · refine notices fun law j => ?_
    simp only [NoticeUnit.updateAttn, Vector.getElem_set]
    split
    · exact occur_count_le _ n (law k.index)
    · exact law j
  · exact refl s

theorem raiseIf (s : State) (b : Bool) (k : NoticeKind) : Calm s (s.raiseIf b k) := ite (raise _ _ _) (refl s)

theorem setBreach (s : State) (b : Bool) : Calm s (s.setBreach b) := of_eq rfl rfl rfl rfl rfl rfl rfl rfl rfl rfl

theorem evalFloorNow (s : State) : Calm s s.evalFloorNow := by
  unfold State.evalFloorNow
  exact ite (refl s) ((setBreach _ _).trans (raise _ _ _))

theorem evalFloor (s : State) : Calm s s.evalFloor := ite (refl s) (evalFloorNow s)

theorem recomputeRequired (s : State) : Calm s s.recomputeRequired :=
  (of_eq rfl rfl rfl rfl rfl rfl rfl rfl rfl rfl : Calm s s.setRequired).trans (evalFloor _)

theorem watchVolumes (s : State) : Calm s s.watchVolumes :=
  ((drawIf _ _).trans (raiseIf _ _ _)).trans (raiseIf _ _ _)

/-! ### The queue -/

/-- A change of the queue that keeps the law of its entries. -/
theorem queue {q : WashQueue} (h : EntryLaw s → EntryLaw { s with wq := q }) : Calm s { s with wq := q } :=
  ⟨fun _ => rfl, fun _ => rfl, rfl, rfl, rfl, rfl, rfl, rfl, rfl, h, id⟩

theorem putEntry {e : QueueEntry} (h : s.queueable e.filter = true) : Calm s (s.putEntry e) :=
  queue fun law x m => by
    rcases mem_putEntry.1 m with rfl | ⟨k, -⟩
    · exact h
    · exact law x k

theorem removeEntry (s : State) (f : FilterId) : Calm s (s.removeEntry f) := by
  rw [State.removeEntry_eq]
  refine queue fun law x m => law x ?_
  exact (mem_removeEntry (f := f).1 m).1

theorem request (s : State) (f : FilterId) (x : WashCause) : Calm s (s.request f x) := by
  unfold State.request
  split
  · rename_i q
    split
    · exact putEntry q
    · rename_i e h
      have named : e.filter = f := by simpa using List.find?_some h
      split
      · exact refl s
      · exact putEntry (by show s.queueable e.filter = true; rwa [named])
  · exact refl s

theorem requestIf (s : State) (b : Bool) (f : FilterId) (x : WashCause) : Calm s (s.requestIf b f x) :=
  ite (request _ _ _) (refl s)

theorem reinsert {e : QueueEntry} (h : s.queueable e.filter = true) : Calm s (s.reinsert e) := by
  refine putEntry ?_
  cases s.entry? e.filter <;> exact h

theorem writePattern (s : State) (f : FilterId) (p : Pattern) : Calm s (s.writePattern f p) :=
  (writeImage _ _ _).trans (modFilter _ _ ⟨rfl, rfl⟩)

theorem failUnit (s : State) (p : SupplyPair) (u : UnitId) : Calm s (s.failUnit p u) :=
  (setUnitFault _ _ _ _).trans (raise _ _ _)

theorem writeSetpoint (s : State) (n : Nat) : Calm s (s.writeSetpoint n) := writePumps _ _

theorem watchDrift (s : State) (f : FilterId) : Calm s (s.watchDrift f) := by
  unfold State.watchDrift
  dsimp only
  split
  · refine ite ?_ (refl s)
    exact ite ((modFilter _ _ ⟨rfl, rfl⟩).trans ((modFilter _ _ ⟨rfl, rfl⟩).trans (raise _ _ _))) (modFilter _ _ ⟨rfl, rfl⟩)
  · exact refl s

theorem evalTriggers (s : State) (f : FilterId) (b : Bool) : Calm s (s.evalTriggers f b) := by
  unfold State.evalTriggers
  refine ite ?_ (refl s)
  exact ((((((setTrig s f _).trans (setFree _ _)).trans (requestIf _ _ _ _)).trans (requestIf _ _ _ _)).trans
    (requestIf _ _ _ _)).trans (requestIf _ _ _ _))

theorem requestRewash (s : State) (f : FilterId) (o : WashOutcome) : Calm s (s.requestRewash f o) :=
  ite ((request _ _ _).trans (modFilter _ _ ⟨rfl, rfl⟩)) (refl s)

theorem storeInput (s : State) (f : FilterId) (i : FilterInput) : Calm s (s.storeInput f i) := by
  unfold State.storeInput
  exact ite (setFnode _ _ _) ((setFnode _ _ _).trans (raise _ _ _))

theorem viewAnswer (s : State) (f : FilterId) (i : FilterInput) : Calm s (s.viewAnswer f i) := modFilter _ _ ⟨rfl, rfl⟩

theorem takeTotal (s : State) (f : FilterId) (v : BitVec 32) (b : Bool) : Calm s (s.takeTotal f v b) :=
  modFilter _ _ ⟨rfl, rfl⟩

end Calm

end Sys2Proof.Machine

/-! SUPPORT. The operations of the Filter Table keep the laws (R5, R8, R11, R14, R17). -/

namespace Sys2Proof.Machine

open Sys2Proof.Safety Sys2Proof.Claim

namespace Keeps

variable {s t u : State}

theorem refl (s : State) : Keeps s s := ⟨Sound.refl s, id⟩

theorem trans (h : Keeps s t) (k : Keeps t u) : Keeps s u := ⟨h.toSound.trans k.toSound, k.headers ∘ h.headers⟩

theorem ite {p : Prop} [Decidable p] (h : p → Keeps s t) (k : ¬ p → Keeps s u) : Keeps s (if p then t else u) := by
  split
  · exact h ‹_›
  · exact k ‹_›

theorem withCtx {c : Slot} {g : WashContext → State} (h : ∀ w, s.ctx c = some w → Keeps s (g w)) :
    Keeps s (s.withCtx c g) := by
  unfold State.withCtx
  split
  · exact h _ (by assumption)
  · exact refl s

theorem foldl {α : Type} {g : State → α → State} (h : ∀ s x, Keeps s (g s x)) (l : List α) (s : State) :
    Keeps s (l.foldl g s) := by
  induction l generalizing s with
  | nil => exact refl s
  | cons x xs ih => exact (h s x).trans (ih (g s x))

end Keeps

/-! ### Operations on one filter -/

/-- No context names a filter. -/
def Unnamed (s : State) (f : FilterId) : Prop := ∀ c o, s.role c ≠ some (f, o)

/-- What the laws read is unchanged, but for the state and the movement of one filter, and the queue as far as the law of its
entries stays. -/
structure OnlyFilter (f : FilterId) (s t : State) : Prop where
  states    : ∀ g, g ≠ f → (t.filter g).state = (s.filter g).state
  movements : ∀ g, g ≠ f → (t.filter g).pending = (s.filter g).pending
  ss        : t.ss = s.ss
  headers   : t.ra.headers = s.ra.headers
  tank      : t.ra.tankTotal = s.ra.tankTotal
  basin     : t.ra.basinTotal = s.ra.basinTotal
  shed      : t.au.shed = s.au.shed
  mode      : t.mc.mode = s.mc.mode
  maxOut    : t.plant.maxOut = s.plant.maxOut
  entries   : EntryLaw s → EntryLaw t
  counts    : CountLaw s → CountLaw t

theorem Calm.only {s t : State} (h : Calm s t) (f : FilterId) : OnlyFilter f s t :=
  ⟨fun g _ => h.states g, fun g _ => h.movements g, h.ss, h.headers, h.tank, h.basin, h.shed, h.mode, h.maxOut, h.entries,
    h.counts⟩

namespace OnlyFilter

variable {f : FilterId} {s t u : State}

theorem trans (h : OnlyFilter f s t) (k : OnlyFilter f t u) : OnlyFilter f s u :=
  ⟨fun g e => (k.states g e).trans (h.states g e), fun g e => (k.movements g e).trans (h.movements g e), k.ss.trans h.ss,
    k.headers.trans h.headers, k.tank.trans h.tank, k.basin.trans h.basin, k.shed.trans h.shed, k.mode.trans h.mode,
    k.maxOut.trans h.maxOut, k.entries ∘ h.entries, k.counts ∘ h.counts⟩

theorem ctx (h : OnlyFilter f s t) (c : Slot) : t.ctx c = s.ctx c := by
  unfold State.ctx
  rw [h.ss]

theorem role (h : OnlyFilter f s t) (c : Slot) : t.role c = s.role c := by
  unfold State.role
  rw [h.ctx]

theorem orphanNames (h : OnlyFilter f s t) (g : FilterId) : t.orphanNames g = s.orphanNames g := by
  unfold State.orphanNames
  simp only [h.ctx]

theorem unnamed (h : OnlyFilter f s t) (free : Unnamed s f) : Unnamed t f := fun c o => by
  rw [h.role]
  exact free c o

/-- The law of washes is the one law that a change of one filter can break. -/
theorem keeps (h : OnlyFilter f s t) (washes : WashLaws s → WashLaws t) : Keeps s t where
  counts := h.counts
  commitments law := commitmentLaw_of law (c := 0) (fun d _ => h.ctx d) (by rw [h.tank, h.ctx]; omega)
    (by rw [h.basin, h.ctx]; omega)
  entries := h.entries
  washes := washes
  slots law := slotLaw_of law (fun c => by rw [h.ctx]; exact id) h.mode h.maxOut
  shed law := shedLaw_of law (by simp only [h.shed, List.Sublist.refl]) fun c _ => by rw [h.ctx]; exact id
  headers law := by
    have same : ∀ g, t.header g = s.header g := fun g => by
      unfold State.header
      rw [h.headers]
    exact headerTableLaw_of law (fun g => by simp only [same, List.Sublist.refl])
      (fun g => by simp only [same, List.Sublist.refl]) (fun _ c _ k => by rwa [h.ctx]) fun _ c _ k => by rwa [h.ctx]

/-- A filter that no context names takes any state but WASH. -/
theorem washes_of_unnamed (h : OnlyFilter f s t) (law : WashLaws s) (free : Unnamed s f)
    (dry : (t.filter f).state ≠ .wash) : WashLaws t := law.shift_unnamed free dry h.states h.movements h.role h.mode

/-- A filter outside WASH takes a state that an orphan may leave it in, without a movement. -/
theorem washes_of_orphaned (h : OnlyFilter f s t) (law : WashLaws s) (dry : (s.filter f).state ≠ .wash)
    (after : (t.filter f).state.orphaned) (still : (t.filter f).pending = none) : WashLaws t :=
  law.shift_orphaned dry after still h.states h.movements h.role h.mode

/-! ### The updates of one filter -/

/-- A change of a filter record that leaves its state. -/
theorem modFilter (s : State) (f : FilterId) {g : FilterRecord → FilterRecord}
    (h : (g (s.filter f)).state = (s.filter f).state) : OnlyFilter f s (s.modFilter f g) := by
  have states : ∀ k, ((s.modFilter f g).filter k).state = (s.filter k).state := fun k => by
    by_cases e : f = k
    · subst e
      rw [State.filter_modFilter_same, h]
    · rw [State.filter_modFilter_ne s e]
  refine ⟨fun k _ => states k, fun k e => ?_, rfl, rfl, rfl, rfl, rfl, rfl, rfl,
    fun law => entryLaw_of law (fun _ m => m) states, id⟩
  rw [State.filter_modFilter_ne s fun k => e k.symm]

/-- The entries left by a change of state: a filter that enters a state without entries loses its own (R36). -/
theorem mem_changeState {s : State} {f : FilterId} {st : FilterState} {e : QueueEntry}
    (m : e ∈ (s.changeState f st).wq.entries) :
    e ∈ s.wq.entries ∧ ((s.filter f).state ≠ st → st.discardsEntry = true → e.filter ≠ f) := by
  unfold State.changeState at m
  split at m
  · rename_i same
    exact ⟨m, fun k => absurd same k⟩
  · dsimp only at m
    rw [State.evalFloor_eq] at m
    by_cases d : st.discardsEntry = true
    · rw [if_pos d] at m
      obtain ⟨k, ne⟩ := mem_removeEntry.1 m
      refine ⟨?_, fun _ _ => ne⟩
      cases h : s.inService f <;> simp only [h, if_true, if_false, Bool.false_eq_true] at k <;> exact k
    · rw [if_neg d] at m
      refine ⟨?_, fun _ k => absurd k d⟩
      cases h : s.inService f <;> simp only [h, if_true, if_false, Bool.false_eq_true] at m <;> exact m

theorem queueable_or_discards {st : FilterState} (dry : st ≠ .wash) :
    st = .service ∨ st = .held ∨ st.discardsEntry = true := by
  cases st <;> first | exact .inl rfl | exact .inr (.inl rfl) | exact .inr (.inr rfl) | exact absurd rfl dry

theorem changeState_entries {s : State} {f : FilterId} {st : FilterState} (dry : st ≠ .wash) (law : EntryLaw s) :
    EntryLaw (s.changeState f st) := by
  by_cases same : (s.filter f).state = st
  · unfold State.changeState
    rwa [if_pos same]
  · intro e m
    obtain ⟨old, ne⟩ := mem_changeState m
    have q := law e old
    unfold State.queueable at *
    by_cases k : f = e.filter
    · rw [← k, State.changeState_filter_same]
      rcases queueable_or_discards dry with rfl | rfl | d
      · rfl
      · rfl
      · exact absurd k.symm (ne same d)
    · rwa [State.changeState_filter_ne s k]

theorem changeState_counts {s : State} {f : FilterId} {st : FilterState} (law : CountLaw s) : CountLaw (s.changeState f st) := by
  unfold State.changeState
  split
  · exact law
  · dsimp only
    refine (Calm.evalFloor _).counts ?_
    cases st.discardsEntry <;> cases s.inService f
    all_goals simp only [if_true, if_false, Bool.false_eq_true]
    all_goals first | exact law | exact (Calm.removeEntry _ _).counts law

/-- A state other than WASH. -/
theorem changeState (s : State) (f : FilterId) {st : FilterState} (dry : st ≠ .wash) : OnlyFilter f s (s.changeState f st) := by
  refine ⟨fun g e => ?_, fun g e => ?_, s.changeState_ss f st, by rw [s.changeState_ra], by rw [s.changeState_ra],
    by rw [s.changeState_ra], s.changeState_shed f st, by rw [s.changeState_mc], ?_, changeState_entries dry,
    changeState_counts⟩
  · rw [s.changeState_filter_ne fun k => e k.symm]
  · rw [s.changeState_filter_ne fun k => e k.symm]
  · unfold State.plant
    rw [s.changeState_cs]

theorem startMovement (s : State) (f : FilterId) (b : Bool) : OnlyFilter f s (s.startMovement f b) :=
  (modFilter s f rfl).trans ((Calm.writeImage _ _ _).only f)

/-- A change of a filter record and then of its state. -/
theorem shift (s : State) (f : FilterId) {g : FilterRecord → FilterRecord} {st : FilterState}
    (h : (g (s.filter f)).state = (s.filter f).state) (dry : st ≠ .wash) :
    OnlyFilter f s ((s.modFilter f g).changeState f st) := (modFilter s f h).trans (changeState _ f dry)

theorem shift_filter (s : State) (f : FilterId) (g : FilterRecord → FilterRecord) (st : FilterState) :
    ((s.modFilter f g).changeState f st).filter f = { g (s.filter f) with state := st } := by
  rw [State.changeState_filter_same, State.filter_modFilter_same]

end OnlyFilter

/-! ### Movements, LOCAL, survey-of-one -/

namespace Keeps

variable {s : State} {f : FilterId}

/-- A movement of the FT for a filter that no context names. -/
theorem startMovement (toService : Bool) (dry : (s.filter f).state ≠ .wash) (free : WashLaws s → Unnamed s f) :
    Keeps s (s.startMovement f toService) :=
  (OnlyFilter.startMovement s f toService).keeps fun law =>
    (OnlyFilter.startMovement s f toService).washes_of_unnamed law (free law) (by
      unfold State.startMovement
      rw [(Calm.writeImage _ _ _).states, State.filter_modFilter_same]
      exact dry)

/-- A movement that ends, in a state that no context names. -/
theorem shift_unnamed {g : FilterRecord → FilterRecord} {st : FilterState} (h : (g (s.filter f)).state = (s.filter f).state)
    (dry : st ≠ .wash) (free : WashLaws s → Unnamed s f) : Keeps s ((s.modFilter f g).changeState f st) :=
  (OnlyFilter.shift s f h dry).keeps fun law =>
    (OnlyFilter.shift s f h dry).washes_of_unnamed law (free law) (by rw [OnlyFilter.shift_filter]; exact dry)

/-- A filter outside WASH that loses its movement in a state that an orphan may leave it in. -/
theorem shift_orphaned {g : FilterRecord → FilterRecord} {st : FilterState} (h : (g (s.filter f)).state = (s.filter f).state)
    (still : (g (s.filter f)).pending = none) (dry : (s.filter f).state ≠ .wash) (after : st.orphaned) :
    Keeps s ((s.modFilter f g).changeState f st) :=
  have only := OnlyFilter.shift s f h (FilterState.orphaned_ne_wash after)
  only.keeps fun law => only.washes_of_orphaned law dry (by rw [OnlyFilter.shift_filter]; exact after)
    (by rw [OnlyFilter.shift_filter]; exact still)

theorem completeMovement (toService : Bool) (moving : (s.filter f).pending ≠ none) :
    Keeps s (s.completeMovement f toService) := by
  unfold State.completeMovement
  exact ite (fun _ => shift_unnamed rfl (by decide) fun law => law.unnamed_of_moving moving)
    fun _ => shift_unnamed rfl (by decide) fun law => law.unnamed_of_moving moving

/-- Another movement for a filter with a movement in travel. -/
theorem modMovement {g : FilterRecord → FilterRecord} (h : (g (s.filter f)).state = (s.filter f).state)
    (moving : (s.filter f).pending ≠ none) : Keeps s (s.modFilter f g) :=
  (OnlyFilter.modFilter s f h).keeps fun law => by
    have free : Unnamed s f := law.unnamed_of_moving moving
    refine (OnlyFilter.modFilter s f h).washes_of_unnamed law free ?_
    rw [State.filter_modFilter_same, h]
    exact fun wash => ((law.wash f).1 wash).elim fun c hc => free c false hc

theorem movementAnswer (s : State) (f : FilterId) : Keeps s (s.movementAnswer f) := by
  unfold State.movementAnswer
  split
  · exact refl s
  · rename_i m h
    have moving : (s.filter f).pending ≠ none := by simp [h]
    exact ite (fun _ => completeMovement _ moving) fun _ => modMovement rfl moving

theorem failMovement (m : Movement) (moving : (s.filter f).pending ≠ none) : Keeps s (s.failMovement f m) :=
  (shift_unnamed rfl (by decide) fun law => law.unnamed_of_moving moving).trans (Calm.raise _ _ _).keeps

theorem takeLocal (dry : (s.filter f).state ≠ .wash) : Keeps s (s.takeLocal f) :=
  shift_orphaned rfl rfl dry (.inr (.inr rfl))

theorem toUnknown (dry : (s.filter f).state ≠ .wash) : Keeps s (s.toUnknown f) :=
  shift_orphaned rfl rfl dry (.inl rfl)

end Keeps

theorem surveyOutcome_ne_wash (view : PerValve ValveView) : (surveyOutcome view).1 ≠ .wash := by
  unfold surveyOutcome
  split
  · simp
  · split <;> simp

theorem surveyOfOne_only (s : State) (f : FilterId) (word : BitVec 16) (loc : Bool) :
    OnlyFilter f s (s.surveyOfOne f word loc) := by
  unfold State.surveyOfOne
  split
  · exact OnlyFilter.shift s f rfl (by decide)
  · dsimp only
    have shown : ∀ g : FilterRecord → FilterRecord, (g (s.filter f)).state = (s.filter f).state →
        OnlyFilter f s (((s.modFilter f g).changeState f (surveyOutcome (viewOfWord word)).1).writeImage f
          (observedImage (viewOfWord word))) := fun g kept =>
      (OnlyFilter.shift s f kept (surveyOutcome_ne_wash _)).trans ((Calm.writeImage _ _ _).only f)
    split
    · exact (shown _ rfl).trans (OnlyFilter.startMovement _ f false)
    · exact shown _ rfl

theorem surveyOfOne_dry (s : State) (f : FilterId) (word : BitVec 16) (loc : Bool) :
    ((s.surveyOfOne f word loc).filter f).state ≠ .wash := by
  unfold State.surveyOfOne
  split
  · unfold State.takeLocal
    rw [OnlyFilter.shift_filter]
    exact nofun
  · dsimp only
    have dry : ∀ g, ((((s.modFilter f g).changeState f (surveyOutcome (viewOfWord word)).1).writeImage f
        (observedImage (viewOfWord word))).filter f).state ≠ .wash := fun g => by
      rw [(Calm.writeImage _ _ _).states, State.changeState_filter_same]
      exact surveyOutcome_ne_wash _
    split
    · unfold State.startMovement
      rw [(Calm.writeImage _ _ _).states, State.filter_modFilter_same]
      exact dry _
    · exact dry _

/-- Survey-of-one of a filter that no context names. -/
theorem Keeps.surveyOfOne {s : State} {f : FilterId} (word : BitVec 16) (loc : Bool) (free : WashLaws s → Unnamed s f) :
    Keeps s (s.surveyOfOne f word loc) :=
  (surveyOfOne_only s f word loc).keeps fun law =>
    (surveyOfOne_only s f word loc).washes_of_unnamed law (free law) (surveyOfOne_dry s f word loc)

namespace Keeps

theorem latchTrip (s : State) (f : FilterId) (i : Fin 16) : Keeps s (s.latchTrip f i) := by
  unfold State.latchTrip
  have calm : Calm s ((s.modFilter f fun r => { r with trip := some i }).raise .trip (filterNumber f)) :=
    (Calm.modFilter _ _ ⟨rfl, rfl⟩).trans (Calm.raise _ _ _)
  dsimp only
  split
  · refine ite (fun service => calm.keeps.trans ?_) fun _ => calm.keeps
    refine startMovement false (by rw [service]; decide) fun law => law.unnamed_of_queueable ?_
    unfold State.queueable
    rw [service]
    rfl
  · rename_i m h
    refine ite (fun _ => calm.keeps.trans ?_) fun _ => calm.keeps
    exact (OnlyFilter.startMovement _ f false).keeps fun law => by
      have free : Unnamed _ f := law.unnamed_of_moving (f := f) (by rw [h]; exact Option.some_ne_none m)
      refine (OnlyFilter.startMovement _ f false).washes_of_unnamed law free ?_
      unfold State.startMovement
      rw [(Calm.writeImage _ _ _).states, State.filter_modFilter_same]
      exact fun wash => ((law.wash f).1 wash).elim fun c hc => free c false hc

theorem watchTrip (s : State) (f : FilterId) (w : BitVec 16) : Keeps s (s.watchTrip f w).1 := by
  unfold State.watchTrip
  dsimp only
  have h : Keeps s (s.modFilter f fun r => { r with previousWord := w }) := (Calm.modFilter _ _ ⟨rfl, rfl⟩).keeps
  split
  · exact h
  · split
    · exact (h.trans (Calm.setFree _ _).keeps).trans (latchTrip _ _ _)
    · exact h

theorem classify (s : State) (f : FilterId) (w : BitVec 16) (a b : Bool) : Keeps s (s.classify f w a b) := by
  unfold State.classify State.classifiable
  refine ite (fun h => ?_) fun _ => ite (fun h => ?_) fun _ => refl s
  · simp only [Bool.and_eq_true, decide_eq_true_eq, Bool.not_eq_true'] at h
    obtain ⟨⟨⟨isLocal, -⟩, free⟩, -⟩ := h
    exact surveyOfOne w _ fun law => law.unnamed_of_no_orphan (by rw [isLocal]; decide) free
  · simp only [Bool.and_eq_true, decide_eq_true_eq, Bool.not_eq_true'] at h
    obtain ⟨⟨⟨⟨unknown, -⟩, free⟩, -⟩, -⟩ := h
    exact surveyOfOne w _ fun law => law.unnamed_of_no_orphan (by rw [unknown]; decide) free

end Keeps

end Sys2Proof.Machine

/-! SUPPORT. The operations on a wash context, its headers and its supplies keep the laws (R77 to R83, R92 to R106, R128). -/

namespace Sys2Proof.Machine

open Sys2Proof.Safety Sys2Proof.Claim

/-! ### The context in one slot -/

/-- Two contexts that differ in nothing that the laws read, but for the phase. -/
structure SameWash (w v : WashContext) : Prop where
  filter   : v.filter = w.filter
  state    : v.state = w.state
  exitKind : v.exitKind = w.exitKind
  tank     : v.tankRemaining = w.tankRemaining
  basin    : v.basinRemaining = w.basinRemaining

theorem SameWash.refl (w : WashContext) : SameWash w w := ⟨rfl, rfl, rfl, rfl, rfl⟩

theorem Beside.setCtx (s : State) (c : Slot) (x : Option WashContext) : Beside c s (s.setCtx c x) :=
  ⟨fun _ => rfl, fun _ => rfl, fun _ e => State.setCtx_ctx_other s e x, rfl, rfl, rfl, rfl, rfl, id, id⟩

/-- A slot whose context changes in nothing that the laws read, with the header table that stands. -/
theorem Sound.sameWash {s t : State} {c : Slot} {w v : WashContext} (b : Beside c s t) (before : s.ctx c = some w)
    (after : t.ctx c = some v) (same : SameWash w v) : Sound s t :=
  Sound.of_beside b (by rw [State.role_of_ctx before, State.role_of_ctx after, same.filter, same.state])
    (by rw [before, after]; exact same.tank) (by rw [before, after]; exact same.basin) (by
      rw [before, after]
      rintro - ⟨x, hx, exiting, kind⟩
      cases hx
      exact ⟨v, rfl, same.state.trans exiting, by rwa [same.exitKind]⟩)

/-- The context in a slot changes while the header table stands: it stays one that may wait, or waits for nothing. -/
theorem headers_of_beside {s t : State} {c : Slot} (b : Beside c s t) (same : t.ra.headers = s.ra.headers)
    (alive : t.ctx c = none → s.ctx c = none) (asking : Unlisted s c ∨ (Asking (s.ctx c) → Asking (t.ctx c)))
    (law : HeaderTableLaw s) : HeaderTableLaw t := by
  have header : ∀ g, t.header g = s.header g := fun g => by
    unfold State.header
    rw [same]
  refine headerTableLaw_of law (fun g => by simp only [header, List.Sublist.refl])
    (fun g => by simp only [header, List.Sublist.refl]) (fun g d _ k => ?_) fun g d m k => ?_
  · by_cases e : d = c
    · subst e
      exact mt alive k
    · rwa [b.others d e]
  · by_cases e : d = c
    · subst e
      rw [header] at m
      exact asking.elim (fun free => absurd m (free g)) fun ask => ask k
    · rwa [b.others d e]

namespace Keeps

variable {s t : State} {c : Slot} {w v : WashContext}

/-- A context changes in nothing that the laws read. -/
theorem setCtx (h : s.ctx c = some w) (same : SameWash w v) (phase : v.phase = w.phase) : Keeps s (s.setCtx c (some v)) where
  toSound := Sound.sameWash (Beside.setCtx s c _) h (State.ctx_setCtx_same ..) same
  headers := headers_of_beside (Beside.setCtx s c _) rfl (by simp) (.inr (by
    rw [h, State.ctx_setCtx_same]
    rintro ⟨x, hx, active, acquire⟩
    cases hx
    exact ⟨v, rfl, same.state.trans active, phase.trans acquire⟩))

/-- A context that does not ask for headers takes another phase. -/
theorem rephase (h : s.ctx c = some w) (same : SameWash w v) (busy : w.state ≠ .active ∨ w.phase ≠ .acquire) :
    Keeps s (s.setCtx c (some v)) where
  toSound := Sound.sameWash (Beside.setCtx s c _) h (State.ctx_setCtx_same ..) same
  headers law := headers_of_beside (Beside.setCtx s c _) rfl (by simp) (.inl (unlisted_of_not_asking law (by
    rw [h]
    rintro ⟨x, hx, active, acquire⟩
    cases hx
    exact busy.elim (fun k => k active) fun k => k acquire))) law

theorem modCtx (s : State) (c : Slot) {g : WashContext → WashContext} (same : ∀ w, SameWash w (g w))
    (phase : ∀ w, (g w).phase = w.phase) : Keeps s (s.modCtx c g) := by
  cases h : s.ctx c with
  | none =>
    rw [modCtx_none h]
    exact refl s
  | some w =>
    rw [State.modCtx_some h]
    exact setCtx h (same w) (phase w)

/-! ### Commitments -/

theorem commitDelta (h : s.ctx c = some w) (a b : Int) : Keeps s (s.commitDelta c w a b) := by
  have after : (s.commitDelta c w a b).ctx c =
      some { w with tankRemaining := w.tankRemaining + a, basinRemaining := w.basinRemaining + b } := ctx_written rfl
  have others : ∀ d, d ≠ c → (s.commitDelta c w a b).ctx d = s.ctx d := fun d e => State.setCtx_ctx_other s e _
  have roles : ∀ d, (s.commitDelta c w a b).role d = s.role d := fun d => by
    unfold State.role
    by_cases e : d = c
    · rw [e, after, h]
      rfl
    · rw [others d e]
  have free : ∀ d, s.ctx d = none → (s.commitDelta c w a b).ctx d = none := fun d k => by
    rwa [← State.role_eq_none_iff, roles, State.role_eq_none_iff]
  refine ⟨⟨id, fun law => ?_, id, fun law => ?_, fun law => slotLaw_of law free rfl rfl, fun law => ?_⟩, fun law => ?_⟩
  · refine commitmentLaw_of law others ?_ ?_
    · rw [after, h]
      show s.ra.tankTotal + a - s.ra.tankTotal = w.tankRemaining + a - w.tankRemaining
      omega
    · rw [after, h]
      show s.ra.basinTotal + b - s.ra.basinTotal = w.basinRemaining + b - w.basinRemaining
      omega
  · exact law.congr (fun _ => rfl) (fun _ => rfl) roles rfl
  · refine shedLaw_of law (List.Sublist.refl _) fun d _ ok => ?_
    by_cases e : d = c
    · subst e
      obtain ⟨x, hx, exiting, kind⟩ := ok
      rw [h] at hx
      cases hx
      exact ⟨_, after, exiting, kind⟩
    · rwa [others d e]
  · refine headerTableLaw_of law (fun _ => List.Sublist.refl _) (fun _ => List.Sublist.refl _)
      (fun _ d _ k => ?_) fun _ d _ ok => ?_
    · rwa [Ne, ← State.role_eq_none_iff, roles, State.role_eq_none_iff]
    · by_cases e : d = c
      · subst e
        obtain ⟨x, hx, active, acquire⟩ := ok
        rw [h] at hx
        cases hx
        exact ⟨_, after, active, acquire⟩
      · rwa [others d e]

theorem releaseCommitments (s : State) (c : Slot) : Keeps s (s.releaseCommitments c) :=
  withCtx fun _ h => commitDelta h _ _

theorem subtractStep (s : State) (c : Slot) : Keeps s (s.subtractStep c) := withCtx fun w h => by
  split
  · exact commitDelta h _ _
  · exact refl s

/-! ### Supplies -/

theorem stopSupply (s : State) (c : Slot) (p : SupplyPair) : Keeps s (s.stopSupply c p) :=
  (Calm.writeStop s p).keeps.trans
    (modCtx _ _ (fun _ => by cases p <;> exact ⟨rfl, rfl, rfl, rfl, rfl⟩) fun _ => by cases p <;> rfl)

theorem stopHeld (s : State) (c : Slot) : Keeps s (s.stopHeld c) := by
  unfold State.stopHeld
  have h : Keeps s (if s.holds c .air then s.stopSupply c .blowers else s) := ite (fun _ => stopSupply _ _ _) fun _ => refl s
  exact ite (fun _ => h.trans (stopSupply _ _ _)) fun _ => h

end Keeps

/-! ### Exit decisions -/

theorem exitState_ctx_same (s : State) (c : Slot) (w : WashContext) (k : ExitKind) (x : Option FaultCause) (v : Option Valve) :
    (exitState s c w k x v).ctx c = some (exitContext s c w k x v) := ctx_written rfl

theorem exitState_ctx_ne (s : State) {c d : Slot} (h : d ≠ c) (w : WashContext) (k : ExitKind) (x : Option FaultCause)
    (v : Option Valve) : (exitState s c w k x v).ctx d = s.ctx d := State.setCtx_ctx_other s h _

theorem exitState_header (s : State) (c : Slot) (w : WashContext) (k : ExitKind) (x : Option FaultCause) (v : Option Valve)
    (h : Header) : (exitState s c w k x v).header h = notWaiting c (s.header h) := by cases h <;> rfl

theorem exitState_beside (s : State) (c : Slot) (w : WashContext) (k : ExitKind) (x : Option FaultCause) (v : Option Valve) :
    Beside c s (exitState s c w k x v) :=
  have record : Calm s (s.setFilter w.filter { s.filter w.filter with commanded := some (exitPattern k) }) :=
    Calm.setFilter rfl rfl
  ⟨record.states, record.movements, fun _ e => exitState_ctx_ne s e w k x v, rfl, rfl, rfl, rfl, rfl, record.entries, id⟩

/-- The header table and a slot's context after the slot has left the wait lists. -/
theorem headers_of_left {s t : State} {c : Slot} (others : ∀ d, d ≠ c → t.ctx d = s.ctx d)
    (header : ∀ h, (t.header h).waiting = ((s.header h).waiting.filter fun x => x != c) ∧
      ((t.header h).holdings.map fun x => x.slot).Sublist ((s.header h).holdings.map fun x => x.slot))
    (alive : t.ctx c ≠ none ∨ ∀ h, t.holds c h = false) (law : HeaderTableLaw s) : HeaderTableLaw t := by
  refine headerTableLaw_of law (fun h => (header h).2) (fun h => ?_) (fun h d m k => ?_) fun h d m k => ?_
  · rw [(header h).1]
    exact List.filter_sublist
  · by_cases e : d = c
    · subst e
      rcases alive with a | a
      · exact a
      · rw [a h] at m
        exact nomatch m
    · rwa [others d e]
  · have e : d ≠ c := by
      rintro rfl
      rw [(header h).1] at m
      simp at m
    rwa [others d e]

/-- An exit of a wash that is not an orphan: a context in the shed list goes on with another kind than SAFE-EXIT. -/
theorem Keeps.exitState {s : State} {c : Slot} {w : WashContext} {k : ExitKind} (h : s.ctx c = some w)
    (live : w.state ≠ .orphan) (kind : w.state = .active ∨ k ≠ .safeExit) (x : Option FaultCause) (v : Option Valve) :
    Keeps s (exitState s c w k x v) where
  toSound := by
    refine Sound.of_beside (exitState_beside s c w k x v) ?_ ?_ ?_ ?_
    · rw [State.role_of_ctx h, State.role_of_ctx (exitState_ctx_same s c w k x v)]
      simp [exitContext, live]
    · rw [h, exitState_ctx_same]
      rfl
    · rw [h, exitState_ctx_same]
      rfl
    · rcases kind with active | kind
      · exact fun _ ok => absurd ok (ShedOk.not_active h active)
      · exact fun _ _ => ⟨_, exitState_ctx_same s c w k x v, rfl, fun e => kind (Option.some.inj e)⟩
  headers := headers_of_left (fun d e => exitState_ctx_ne s e w k x v)
    (fun g => by rw [exitState_header]; exact ⟨rfl, List.Sublist.refl _⟩)
    (.inl (by rw [exitState_ctx_same]; exact Option.some_ne_none _))

theorem Keeps.decideExit (s : State) (c : Slot) (x : Option FaultCause) (v : Option Valve) : Keeps s (s.decideExit c x v) :=
  Keeps.withCtx fun w h => Keeps.ite (fun active => by
    rw [decideExitAs_eq]
    exact Keeps.exitState h (by rw [active]; decide) (.inl active) x v) fun _ => Keeps.refl s

/-! ### Headers: asking, waiting, granting (R78, R94, R95) -/

section

variable {s : State} {c : Slot} {h : Header}

theorem addHolding_header (s : State) (c : Slot) (h g : Header) :
    (s.addHolding c h).header g =
      if h = g then ⟨(s.header h).holdings ++ [⟨c, false⟩], (s.header h).waiting.filter fun x => x != c⟩ else s.header g :=
  State.header_setHeader ..

theorem addWaiter_header (s : State) (c : Slot) (h g : Header) :
    (s.addWaiter c h).header g =
      if h = g then { s.header h with waiting := (s.header h).waiting ++ [c] } else s.header g := State.header_setHeader ..

theorem Beside.of_headers {s t : State} (c : Slot) (other : t = { s with ra := { s.ra with headers := t.ra.headers } }) :
    Beside c s t := by
  rw [other]
  exact ⟨fun _ => rfl, fun _ => rfl, fun _ _ => rfl, rfl, rfl, rfl, rfl, rfl, id, id⟩

/-- A change of the header table alone. -/
theorem Sound.of_headers {s t : State} (other : t = { s with ra := { s.ra with headers := t.ra.headers } }) : Sound s t := by
  have ctx : t.ctx 0 = s.ctx 0 := by rw [other]; rfl
  refine Sound.of_beside (Beside.of_headers 0 other) ?_ ?_ ?_ ?_
  · unfold State.role
    rw [ctx]
  · rw [ctx]
  · rw [ctx]
  · rw [ctx]
    exact fun _ => id

theorem holds_addHolding (s : State) (c d : Slot) (h g : Header) :
    (s.addHolding c h).holds d g = (s.holds d g || decide (h = g ∧ d = c)) := by
  unfold State.holds
  rw [addHolding_header]
  by_cases e : h = g
  · subst e
    simp [eq_comm]
  · simp [e]

/-- A grant, to a context that is not FREE and does not hold the header (R92, R95). -/
theorem headerTableLaw_addHolding (law : HeaderTableLaw s) (room : s.hasRoom h = true) (free : s.holds c h = false)
    (alive : s.ctx c ≠ none) : HeaderTableLaw (s.addHolding c h) := by
  intro g
  obtain ⟨capacity, once, waitOnce, holders, waiters⟩ := law g
  have old : ∀ k, ∀ d ∈ ((s.addHolding c h).header k).waiting, d ∈ (s.header k).waiting ∧ (h = k → d ≠ c) := by
    intro k d m
    rw [addHolding_header] at m
    split at m
    · rename_i e
      subst e
      simpa using m
    · rename_i e
      exact ⟨m, fun e' => absurd e' e⟩
  have alone : ∀ d, (s.addHolding c h).holds d g = true → s.ctx d ≠ none := by
    intro d m
    rw [holds_addHolding, Bool.or_eq_true, decide_eq_true_eq] at m
    rcases m with m | ⟨-, rfl⟩
    · exact holders d m
    · exact alive
  have waiting : ∀ d ∈ ((s.addHolding c h).header g).waiting, (∃ w, InPhase s d w .acquire) ∧
      (s.addHolding c h).holds d g = false ∧ ∀ k, k ≠ g → d ∉ ((s.addHolding c h).header k).waiting := by
    intro d m
    obtain ⟨m, other⟩ := old g d m
    obtain ⟨ask, not, only⟩ := waiters d m
    refine ⟨ask, ?_, fun k e m' => only k e (old k d m').1⟩
    rw [holds_addHolding, not, Bool.false_or, decide_eq_false_iff_not]
    exact fun ⟨e, k⟩ => other e k
  by_cases e : h = g
  · subst e
    have header := addHolding_header s c h h
    rw [if_pos rfl] at header
    refine ⟨?_, ?_, ?_, alone, waiting⟩
    · rw [header]
      simp only [State.hasRoom, decide_eq_true_eq] at room
      rw [List.length_append]
      exact room
    · rw [header, List.map_append, List.nodup_append]
      refine ⟨once, by simp, fun a ha b hb => ?_⟩
      simp only [List.map_cons, List.map_nil, List.mem_singleton] at hb
      subst hb
      rintro rfl
      rw [(holds_iff_mem s _ h).2 ha] at free
      exact nomatch free
    · rw [header]
      exact waitOnce.filter _
  · have header := addHolding_header s c h g
    rw [if_neg e] at header
    refine ⟨?_, ?_, ?_, alone, waiting⟩
    · rwa [header]
    · rwa [header]
    · rwa [header]

/-- A place at the tail of a wait list, for a context that asks, holds the header not and waits nowhere (R94). -/
theorem headerTableLaw_addWaiter (law : HeaderTableLaw s) (ask : Asking (s.ctx c)) (free : s.holds c h = false)
    (unlisted : Unlisted s c) : HeaderTableLaw (s.addWaiter c h) := by
  have holds : ∀ d k, (s.addWaiter c h).holds d k = s.holds d k := fun d k => by
    unfold State.holds
    rw [addWaiter_header]
    split
    · rename_i e
      rw [e]
    · rfl
  have new : ∀ k, ∀ d ∈ ((s.addWaiter c h).header k).waiting, d ∈ (s.header k).waiting ∨ h = k ∧ d = c := by
    intro k d m
    rw [addWaiter_header] at m
    split at m
    · rename_i e
      subst e
      simpa using m
    · exact .inl m
  intro g
  obtain ⟨capacity, once, waitOnce, holders, waiters⟩ := law g
  have waiting : ∀ d ∈ ((s.addWaiter c h).header g).waiting, (∃ w, InPhase s d w .acquire) ∧
      (s.addWaiter c h).holds d g = false ∧ ∀ k, k ≠ g → d ∉ ((s.addWaiter c h).header k).waiting := by
    intro d m
    rw [holds]
    rcases new g d m with old | ⟨rfl, rfl⟩
    · obtain ⟨ask', not, only⟩ := waiters d old
      refine ⟨ask', not, fun k e m' => ?_⟩
      rcases new k d m' with m' | ⟨-, rfl⟩
      · exact only k e m'
      · exact unlisted g old
    · refine ⟨ask, free, fun k e m' => ?_⟩
      rcases new k d m' with m' | ⟨rfl, -⟩
      · exact unlisted k m'
      · exact e rfl
  by_cases e : h = g
  · subst e
    have header := addWaiter_header s c h h
    rw [if_pos rfl] at header
    refine ⟨by rw [header]; exact capacity, by rw [header]; exact once, ?_, fun d m => holders d (holds d h ▸ m), waiting⟩
    rw [header, List.nodup_append]
    refine ⟨waitOnce, by simp, fun a ha b hb => ?_⟩
    simp only [List.mem_singleton] at hb
    subst hb
    rintro rfl
    exact unlisted h ha
  · have header := addWaiter_header s c h g
    rw [if_neg e] at header
    exact ⟨by rwa [header], by rwa [header], by rwa [header], fun d m => holders d (holds d g ▸ m), waiting⟩

end

/-- A context enters SETTING: every law but that of the header table, which asks that it waits nowhere. -/
theorem Sound.enterSetting (s : State) (c : Slot) : Sound s (s.enterSetting c) := by
  unfold State.enterSetting State.withCtx
  split
  · rename_i w h
    refine Sound.trans ?_ (Calm.writePattern _ _ _).sound
    exact Sound.sameWash (Beside.setCtx s c _) h (State.ctx_setCtx_same ..) ⟨rfl, rfl, rfl, rfl, rfl⟩
  · exact Sound.refl s

theorem Sound.tryHeaders (s : State) (c : Slot) (l : List Header) : Sound s (s.tryHeaders c l) := by
  induction l generalizing s with
  | nil => exact Sound.enterSetting s c
  | cons h hs ih =>
    unfold State.tryHeaders
    split
    · exact ih s
    · split
      · exact (Keeps.decideExit _ _ _ _).toSound
      · split
        · exact (Sound.of_headers rfl).trans (ih _)
        · exact Sound.of_headers rfl

theorem Sound.acquire (s : State) (c : Slot) : Sound s (s.acquire c) := by
  unfold State.acquire State.withCtx
  split
  · exact Sound.tryHeaders _ _ _
  · exact Sound.refl s

theorem Sound.beginStep (s : State) (c : Slot) (i : Nat) : Sound s (s.beginStep c i) := by
  refine Sound.trans ?_ (Sound.acquire _ c)
  cases h : s.ctx c with
  | none =>
    rw [modCtx_none h]
    exact Sound.refl s
  | some w =>
    rw [State.modCtx_some h]
    exact Sound.sameWash (Beside.setCtx s c _) h (State.ctx_setCtx_same ..) ⟨rfl, rfl, rfl, rfl, rfl⟩

theorem Sound.grantOnward (s : State) (h : Header) (n : Nat) : Sound s (s.grantOnward h n) := by
  induction n generalizing s with
  | zero => exact Sound.refl s
  | succ n ih =>
    unfold State.grantOnward
    split
    · split
      · exact Sound.refl s
      · exact ((Sound.of_headers rfl).trans (Sound.acquire _ _)).trans (ih _)
    · exact Sound.refl s

/-- A context that waits nowhere enters SETTING. -/
theorem headerTableLaw_enterSetting {s : State} {c : Slot} (law : HeaderTableLaw s) (unlisted : Unlisted s c) :
    HeaderTableLaw (s.enterSetting c) := by
  unfold State.enterSetting State.withCtx
  split
  · refine (Calm.writePattern _ _ _).keeps.headers ?_
    exact headers_of_beside (Beside.setCtx s c _) rfl (by simp) (.inl unlisted) law
  · exact law

/-- A context that asks and waits nowhere goes through the headers its step needs. -/
theorem headerTableLaw_tryHeaders {s : State} {c : Slot} (law : HeaderTableLaw s) (ask : Asking (s.ctx c))
    (unlisted : Unlisted s c) (l : List Header) : HeaderTableLaw (s.tryHeaders c l) := by
  induction l generalizing s with
  | nil => exact headerTableLaw_enterSetting law unlisted
  | cons h hs ih =>
    unfold State.tryHeaders
    split
    · exact ih law ask unlisted
    · rename_i free
      split
      · exact (Keeps.decideExit _ _ _ _).headers law
      · split
        · rename_i room
          refine ih (headerTableLaw_addHolding law room (by simpa using free) ?_) ask fun g m => ?_
          · obtain ⟨w, hw, -⟩ := ask
            rw [hw]
            exact Option.some_ne_none w
          · rw [addHolding_header] at m
            split at m
            · simp at m
            · exact unlisted g m
        · exact headerTableLaw_addWaiter law ask (by simpa using free) unlisted

theorem headerTableLaw_acquire {s : State} {c : Slot} (law : HeaderTableLaw s) (ask : Asking (s.ctx c))
    (unlisted : Unlisted s c) : HeaderTableLaw (s.acquire c) := by
  unfold State.acquire State.withCtx
  split
  · exact headerTableLaw_tryHeaders law ask unlisted _
  · exact law

/-- A step begins for an ACTIVE context that waits nowhere. -/
theorem headerTableLaw_beginStep {s : State} {c : Slot} {w : WashContext} (law : HeaderTableLaw s) (h : s.ctx c = some w)
    (active : w.state = .active) (unlisted : Unlisted s c) (i : Nat) : HeaderTableLaw (s.beginStep c i) := by
  unfold State.beginStep
  rw [State.modCtx_some h]
  refine headerTableLaw_acquire ?_ ⟨_, State.ctx_setCtx_same .., active, rfl⟩ unlisted
  exact headers_of_beside (Beside.setCtx s c _) rfl (by simp) (.inl unlisted) law

theorem headerTableLaw_grantOnward {s : State} (law : HeaderTableLaw s) (h : Header) (n : Nat) :
    HeaderTableLaw (s.grantOnward h n) := by
  induction n generalizing s with
  | zero => exact law
  | succ n ih =>
    unfold State.grantOnward
    split
    · rename_i room
      split
      · exact law
      · rename_i c rest head
        obtain ⟨ask, free, only⟩ := (law h).2.2.2.2 c (by rw [head]; exact List.mem_cons_self ..)
        refine ih (headerTableLaw_acquire (headerTableLaw_addHolding law room free ?_) ask fun g m => ?_)
        · obtain ⟨w, hw, -⟩ := ask
          rw [hw]
          exact Option.some_ne_none w
        · rw [addHolding_header] at m
          split at m
          · simp at m
          · rename_i e
            exact only g (fun k => e k.symm) m
    · exact law

namespace Keeps

variable {s : State} {c : Slot} {w : WashContext}

theorem grantOnward (s : State) (h : Header) (n : Nat) : Keeps s (s.grantOnward h n) :=
  ⟨Sound.grantOnward s h n, fun law => headerTableLaw_grantOnward law h n⟩

theorem grantFreed (s : State) (h : Header) : Keeps s (s.grantFreed h) := grantOnward _ _ _

/-- A step begins for an ACTIVE context that does not ask for headers. -/
theorem beginStep (h : s.ctx c = some w) (active : w.state = .active) (phase : w.phase ≠ .acquire) (i : Nat) :
    Keeps s (s.beginStep c i) :=
  ⟨Sound.beginStep s c i, fun law => headerTableLaw_beginStep law h active (unlisted_of_not_asking law (by
    rw [h]
    rintro ⟨x, hx, -, acquire⟩
    cases hx
    exact phase acquire)) i⟩

theorem dropHolding (s : State) (c : Slot) (h : Header) : Keeps s (s.dropHolding c h) where
  toSound := Sound.of_headers rfl
  headers law := by
    have header := fun g => State.header_setHeader s h g
      { s.header h with holdings := (s.header h).holdings.filter fun x => x.slot != c }
    refine headerTableLaw_of law (fun g => ?_) (fun g => ?_) (fun _ _ _ k => k) fun _ _ _ k => k
    · unfold State.dropHolding
      rw [header]
      split
      · rename_i e
        subst e
        exact List.filter_sublist.map _
      · exact List.Sublist.refl _
    · unfold State.dropHolding
      rw [header]
      split
      · rename_i e
        subst e
        exact List.Sublist.refl _
      · exact List.Sublist.refl _

theorem releaseHolding (s : State) (c : Slot) (h : Header) : Keeps s (s.releaseHolding c h) := withCtx fun w _ => by
  refine ite (fun _ => ?_) fun _ => refl s
  refine Keeps.trans ?_ (grantFreed _ _)
  split
  · exact (dropHolding _ _ _).trans (stopSupply _ _ _)
  · exact dropHolding _ _ _

theorem releaseHoldings (s : State) (c : Slot) : Keeps s (s.releaseHoldings c) :=
  ((releaseHolding _ _ _).trans (releaseHolding _ _ _)).trans (releaseHolding _ _ _)

end Keeps

end Sys2Proof.Machine

/-! SUPPORT. The phases, supplies and step ends of a wash, and the orphans, keep the laws (R80 to R83, R99 to R112, R115 to
R117). -/

namespace Sys2Proof.Machine

open Sys2Proof.Safety Sys2Proof.Claim

/-- The context in a slot, if any, is ACTIVE and past ACQUIRE, so that it asks for no header. -/
def Busy (s : State) (c : Slot) : Prop := ∀ w, s.ctx c = some w → w.state = .active ∧ w.phase ≠ .acquire

theorem Busy.of_ctx {s : State} {c : Slot} {w : WashContext} (h : s.ctx c = some w) (active : w.state = .active)
    (phase : w.phase ≠ .acquire) : Busy s c := fun v hv => by
  rw [h] at hv
  cases hv
  exact ⟨active, phase⟩

theorem Busy.modCtx {s : State} {c : Slot} (b : Busy s c) {g : WashContext → WashContext}
    (state : ∀ w, (g w).state = w.state) (phase : ∀ w, (g w).phase = w.phase) : Busy (s.modCtx c g) c := by
  intro v hv
  cases h : s.ctx c with
  | none =>
    rw [modCtx_none h, h] at hv
    exact nomatch hv
  | some w =>
    rw [State.modCtx_some h, State.ctx_setCtx_same] at hv
    cases hv
    rw [state, phase]
    exact b w h

theorem Busy.subtractStep {s : State} {c : Slot} (b : Busy s c) : Busy (s.subtractStep c) c := by
  unfold State.subtractStep State.withCtx
  split
  · rename_i w h
    dsimp only
    split
    · refine Busy.of_ctx (ctx_written rfl) ?_ ?_
      · exact (b w h).1
      · exact (b w h).2
    · exact b
  · exact b

namespace Keeps

variable {s : State} {c : Slot} {w : WashContext}

/-! ### Phases and step ends -/

/-- A context past ACQUIRE takes another phase. -/
theorem modPhase (b : Busy s c) {g : WashContext → WashContext} (same : ∀ w, SameWash w (g w)) : Keeps s (s.modCtx c g) := by
  cases h : s.ctx c with
  | none =>
    rw [modCtx_none h]
    exact refl s
  | some w =>
    rw [State.modCtx_some h]
    exact rephase h (same w) (.inr (b w h).2)

theorem enterTiming (b : Busy s c) : Keeps s (s.enterTiming c) := modPhase b fun _ => ⟨rfl, rfl, rfl, rfl, rfl⟩

theorem enterHoldpoint (b : Busy s c) : Keeps s (s.enterHoldpoint c) := by
  refine trans ?_ (stopHeld _ c)
  exact modPhase b fun _ => ⟨rfl, rfl, rfl, rfl, rfl⟩

theorem markWashed (s : State) (c : Slot) : Keeps s (s.markWashed c) :=
  modCtx s c (fun _ => ⟨rfl, rfl, rfl, rfl, rfl⟩) fun _ => rfl

theorem endStep (b : Busy s c) : Keeps s (s.endStep c) := withCtx fun w h => by
  split
  · exact refl s
  · have ended : Keeps s ((s.subtractStep c).markWashed c) := (subtractStep s c).trans (markWashed _ c)
    have after : Busy ((s.subtractStep c).markWashed c) c := b.subtractStep.modCtx (fun _ => rfl) fun _ => rfl
    refine ite (fun _ => ended.trans (enterHoldpoint after)) fun _ => ended.trans ?_
    cases k : ((s.subtractStep c).markWashed c).ctx c with
    | none =>
      unfold State.beginStep State.acquire
      rw [modCtx_none k, State.withCtx_none k]
      exact refl _
    | some v => exact beginStep k (after v k).1 (after v k).2 _

/-! ### Supplies -/

theorem setSupply (s : State) (c : Slot) (p : SupplyPair) (x : SupplyState) :
    Keeps s (s.modCtx c fun w => w.setSupply p x) :=
  modCtx s c (fun _ => by cases p <;> exact ⟨rfl, rfl, rfl, rfl, rfl⟩) fun _ => by cases p <;> rfl

theorem startUnit (s : State) (c : Slot) (p : SupplyPair) (u : UnitId) (x : UnitSet) : Keeps s (s.startUnit c p u x) :=
  (Calm.writeUnits _ _ _).keeps.trans (setSupply _ _ _ _)

theorem startFailed (s : State) (c : Slot) (p : SupplyPair) : Keeps s (s.startFailed c p) :=
  ((Calm.writeUnits _ _ _).keeps.trans (setSupply _ _ _ _)).trans (decideExit _ _ _ _)

theorem startSupply (s : State) (c : Slot) (p : SupplyPair) : Keeps s (s.startSupply c p) := withCtx fun _ _ => by
  refine ite (fun _ => ?_) fun _ => refl s
  split
  · exact startUnit _ _ _ _ _
  · exact decideExit _ _ _ _

theorem enterRamping (b : Busy s c) : Keeps s (s.enterRamping c) := withCtx fun w h =>
  (Calm.writeSetpoint s w.flowTarget).keeps.trans
    (rephase (s := s.writeSetpoint w.flowTarget) h ⟨rfl, rfl, rfl, rfl, rfl⟩ (.inr (b w h).2))

theorem checkStarted (s : State) (c : Slot) : Keeps s (s.checkStarted c) := withCtx fun w h =>
  ite (fun k => by
    simp only [Bool.and_eq_true, decide_eq_true_eq] at k
    obtain ⟨⟨active, starting⟩, -⟩ := k
    have b : Busy s c := Busy.of_ctx h active (by rw [starting]; decide)
    exact ite (fun _ => enterTiming b) fun _ => enterRamping b) fun _ => refl s

theorem enterStarting (b : Busy s c) : Keeps s (s.enterStarting c) := withCtx fun w h => by
  refine trans (trans ?_ (foldl (fun s p => startSupply s c p) _ _)) (checkStarted _ c)
  exact rephase h ⟨rfl, rfl, rfl, rfl, rfl⟩ (.inr (b w h).2)

theorem startExpired (s : State) (c : Slot) (p : SupplyPair) (u : UnitId) (x : UnitSet) : Keeps s (s.startExpired c p u x) := by
  unfold State.startExpired
  exact (Calm.failUnit s p u).keeps.trans (ite (fun _ => startUnit _ _ _ _ _) fun _ => startFailed _ _ _)

theorem runLoss (s : State) (c : Slot) (p : SupplyPair) (u : UnitId) : Keeps s (s.runLoss c p u) := by
  unfold State.runLoss
  exact (Calm.failUnit s p u).keeps.trans (ite (fun _ => startUnit _ _ _ _ _) fun _ => startFailed _ _ _)

theorem writeSupply (h : s.ctx c = some w) (p : SupplyPair) (x : SupplyState) :
    Keeps s (s.setCtx c (some (w.setSupply p x))) := by
  rw [← State.modCtx_some h fun w => w.setSupply p x]
  exact setSupply _ _ _ _

theorem superviseSupply (s : State) (c : Slot) (p : SupplyPair) : Keeps s (s.superviseSupply c p) := withCtx fun w h => by
  have duty : ∀ u, (s.setDuty p u).ctx c = some w := fun u => by cases p <;> exact h
  split
  · exact refl s
  · exact ite (fun _ => ((Calm.setDuty s p _).keeps.trans (writeSupply (duty _) p _)).trans (checkStarted _ _)) fun _ => refl s
  · exact ite (fun _ => writeSupply h p _) fun _ => ite (fun _ => runLoss _ _ _ _) fun _ => writeSupply h p _

/-! ### Flow -/

theorem busy_of_activeIn (h : s.ctx c = some w) {p : Phase} (k : w.activeIn p = true) (other : p ≠ .acquire) : Busy s c := by
  simp only [WashContext.activeIn, Bool.and_eq_true, decide_eq_true_eq] at k
  exact Busy.of_ctx h k.1 (by rw [k.2]; exact other)

theorem watchRamp (s : State) (c : Slot) : Keeps s (s.watchRamp c) := withCtx fun w h =>
  ite (fun k => enterTiming (busy_of_activeIn h (Bool.and_eq_true _ _ ▸ k).1 (by decide))) fun _ => refl s

theorem watchLowFlow (s : State) (c : Slot) : Keeps s (s.watchLowFlow c) := withCtx fun w h => by
  have note : ∀ x, Keeps s (s.setCtx c (some { w with lowFlowStart := x })) := fun x =>
    setCtx h ⟨rfl, rfl, rfl, rfl, rfl⟩ rfl
  refine ite (fun _ => ite (fun _ => ?_) fun _ => note _) fun _ => refl s
  split
  · exact note _
  · exact ite (fun _ => decideExit _ _ _ _) fun _ => refl s

theorem pumpAnswerFor (s : State) (c : Slot) : Keeps s (s.pumpAnswerFor c) := withCtx fun _ _ =>
  (superviseSupply s c .pumps).trans
    (ite (fun _ => watchRamp _ _) fun _ => ite (fun _ => watchLowFlow _ _) fun _ => refl _)

theorem rampExpired (s : State) (c : Slot) : Keeps s (s.rampExpired c) := withCtx fun w h =>
  ite (fun _ => (Calm.writeSetpoint s w.fallbackFlow).keeps.trans
    (setCtx (s := s.writeSetpoint w.fallbackFlow) h ⟨rfl, rfl, rfl, rfl, rfl⟩ rfl)) fun _ => decideExit _ _ _ _

end Keeps

/-! ### Freeing a slot -/

/-- A header's entry without a slot among its holders and its waiters. -/
def withoutSlot (c : Slot) (e : HeaderEntry) : HeaderEntry :=
  { holdings := e.holdings.filter fun x => x.slot != c, waiting := e.waiting.filter fun x => x != c }

theorem freeSlot_header (s : State) (c : Slot) (h : Header) : (s.freeSlot c).header h = withoutSlot c (s.header h) := by
  cases h <;> rfl

theorem freeSlot_ctx_same (s : State) (c : Slot) : (s.freeSlot c).ctx c = none := ctx_written rfl

theorem freeSlot_ctx_ne (s : State) {c d : Slot} (h : d ≠ c) : (s.freeSlot c).ctx d = s.ctx d := State.setCtx_ctx_other _ h _

theorem not_holds_of_withoutSlot {s t : State} {c : Slot} (header : ∀ h, t.header h = withoutSlot c (s.header h)) (h : Header) :
    t.holds c h = false := by
  unfold State.holds
  rw [header]
  simp [withoutSlot]

/-- The header table after a slot has become FREE. -/
theorem headers_of_freed {s t : State} {c : Slot} (others : ∀ d, d ≠ c → t.ctx d = s.ctx d)
    (header : ∀ h, t.header h = withoutSlot c (s.header h)) : HeaderTableLaw s → HeaderTableLaw t :=
  headers_of_left others (fun h => by rw [header]; exact ⟨rfl, List.filter_sublist.map _⟩)
    (.inr (not_holds_of_withoutSlot header))

theorem role_of_others {s t : State} {c : Slot} (others : ∀ d, d ≠ c → t.ctx d = s.ctx d) {d : Slot} (h : d ≠ c) :
    t.role d = s.role d := by
  unfold State.role
  rw [others d h]

theorem free_of_others {s t : State} {c : Slot} (others : ∀ d, d ≠ c → t.ctx d = s.ctx d) (gone : t.ctx c = none) (d : Slot)
    (free : s.ctx d = none) : t.ctx d = none := by
  by_cases e : d = c
  · rw [e, gone]
  · rwa [others d e]

/-! ### Orphans -/

section

variable {s : State} {c : Slot} {w : WashContext}

theorem freedState_ctx_same (s : State) (c : Slot) (w : WashContext) : (freedState s c w).ctx c = none := ctx_written rfl

theorem freedState_ctx_ne (s : State) {c d : Slot} (h : d ≠ c) (w : WashContext) : (freedState s c w).ctx d = s.ctx d :=
  State.setCtx_ctx_other s h _

theorem freedState_header (s : State) (c : Slot) (w : WashContext) (h : Header) :
    (freedState s c w).header h = withoutSlot c (s.header h) := by cases h <;> rfl

theorem freedState_filter (s : State) (c : Slot) (w : WashContext) (f : FilterId) :
    ((freedState s c w).filter f).state = (s.filter f).state ∧ ((freedState s c w).filter f).pending = (s.filter f).pending := by
  unfold freedState
  dsimp only
  split
  · have calm : Calm s (s.setFilter w.filter { s.filter w.filter with classifyDue := true }) := Calm.setFilter rfl rfl
    exact ⟨calm.states f, calm.movements f⟩
  · exact ⟨rfl, rfl⟩

/-- An ORPHAN context is freed. -/
theorem Keeps.freeOrphan (h : s.ctx c = some w) (orphan : w.state = .orphan) : Keeps s (s.freeOrphan c) := by
  rw [freeOrphan_eq h]
  have others : ∀ d, d ≠ c → (freedState s c w).ctx d = s.ctx d := fun d e => freedState_ctx_ne s e w
  have gone := freedState_ctx_same s c w
  have states := fun f => (freedState_filter s c w f).1
  have movements := fun f => (freedState_filter s c w f).2
  refine ⟨⟨id, fun law => ?_, fun law => entryLaw_of law (fun _ m => m) states, fun law => ?_,
    fun law => slotLaw_of law (free_of_others others gone) rfl rfl, fun law => ?_⟩,
    headers_of_freed others (freedState_header s c w)⟩
  · refine commitmentLaw_of law others ?_ ?_
    · rw [gone, h]
      show s.ra.tankTotal - w.tankRemaining - s.ra.tankTotal = 0 - w.tankRemaining
      omega
    · rw [gone, h]
      show s.ra.basinTotal - w.basinRemaining - s.ra.basinTotal = 0 - w.basinRemaining
      omega
  · refine law.unorphan (c := c) (f := w.filter) ?_ states movements ?_ (fun d e => role_of_others others e) rfl
    · rw [State.role_of_ctx h, orphan]
      rfl
    · rwa [State.role_eq_none_iff]
  · refine shedLaw_of law (List.Sublist.refl _) fun d m ok => ?_
    have e : d ≠ c := by
      rintro rfl
      obtain ⟨x, hx, exiting, -⟩ := ok
      rw [h] at hx
      cases hx
      rw [orphan] at exiting
      exact nomatch exiting
    rwa [others d e]

theorem ctxIs_iff (s : State) (c : Slot) (st : WashState) : s.ctxIs c st = true ↔ ∃ w, s.ctx c = some w ∧ w.state = st := by
  unfold State.ctxIs
  cases s.ctx c <;> simp

namespace Keeps

theorem freeIfBare (s : State) (c : Slot) : Keeps s (s.freeIfBare c) :=
  ite (fun k => by
    rw [Bool.and_eq_true, ctxIs_iff] at k
    obtain ⟨⟨w, h, orphan⟩, -⟩ := k
    exact freeOrphan h orphan) fun _ => refl s

theorem releaseOrphanHolding (s : State) (c : Slot) (h : Header) : Keeps s (s.releaseOrphanHolding c h) :=
  withCtx fun _ _ => ite (fun _ => (dropHolding _ _ _).trans (grantFreed _ _)) fun _ => refl s

theorem testOrphan (s : State) (c : Slot) : Keeps s (s.testOrphan c) :=
  ite (fun _ => (((releaseOrphanHolding _ _ _).trans (releaseOrphanHolding _ _ _)).trans (releaseOrphanHolding _ _ _)).trans
    (freeIfBare _ _)) fun _ => refl s

theorem testOrphans (s : State) : Keeps s s.testOrphans := foldl testOrphan _ _

theorem supplyLost (s : State) (p : SupplyPair) : Keeps s (s.supplyLost p) :=
  ((Calm.writeStop s p).keeps.trans (foldl (fun s c => stopSupply s c p) _ _)).trans
    (foldl (fun s c => decideExit s c _ _) _ _)

end Keeps

end

end Sys2Proof.Machine

/-! SUPPORT. The ends of a wash, an orphaned wash and an admission keep the laws (R56, R87, R109, R130 to R137). -/

namespace Sys2Proof.Machine

open Sys2Proof.Safety Sys2Proof.Claim

variable {s : State} {c : Slot} {w : WashContext}

/-! ### A wash ends -/

theorem releaseCommitments_ctx_same (h : s.ctx c = some w) :
    (s.releaseCommitments c).ctx c = some { w with tankRemaining := 0, basinRemaining := 0 } := by
  rw [releaseCommitments_eq h]
  exact ctx_written rfl

theorem Beside.freeSlot (m : State) (c : Slot) : Beside c m (m.freeSlot c) := by
  rw [freeSlot_eq]
  exact ⟨fun _ => rfl, fun _ => rfl, fun _ e => State.setCtx_ctx_other m e none, rfl, rfl, rfl, rfl, rfl,
    fun law => entryLaw_of law (fun _ k => k) fun _ => rfl, id⟩

/-- A context without commitments ends: its filter takes another state than WASH, its slot leaves the shed list and, after what
else the end does, is FREE. -/
theorem Keeps.retire {x m : State} (h : s.ctx c = some w) (live : w.state ≠ .orphan) (tank : w.tankRemaining = 0)
    (basin : w.basinRemaining = 0) (only : OnlyFilter w.filter s x) (dry : (x.filter w.filter).state ≠ .wash)
    (calm : Calm (x.shedRemove c) m) : Keeps s (m.freeSlot c) := by
  have others : ∀ d, d ≠ c → (m.freeSlot c).ctx d = s.ctx d := fun d e => by
    rw [freeSlot_ctx_ne m e, calm.ctx, State.shedRemove_ctx, only.ctx]
  have gone := freeSlot_ctx_same m c
  have header : ∀ k, (m.freeSlot c).header k = withoutSlot c (s.header k) := fun k => by
    rw [freeSlot_header, calm.header, State.shedRemove_header]
    unfold State.header
    rw [only.headers]
  have freed := Beside.freeSlot m c
  have mode : (m.freeSlot c).mc.mode = s.mc.mode := freed.mode.trans (calm.mode.trans only.mode)
  have maxOut : (m.freeSlot c).plant.maxOut = s.plant.maxOut := freed.maxOut.trans (calm.maxOut.trans only.maxOut)
  have shed : (m.freeSlot c).au.shed = s.au.shed.filter fun y => y != c :=
    freed.shed.trans (calm.shed.trans (congrArg (List.filter fun y => y != c) only.shed))
  refine ⟨⟨fun law => ?_, fun law => ?_, fun law => ?_, fun law => ?_,
    fun law => slotLaw_of law (free_of_others others gone) mode maxOut, fun law => ?_⟩, headers_of_freed others header⟩
  · exact freed.counts (calm.counts (only.counts law))
  · refine commitmentLaw_of law others ?_ ?_
    · rw [gone, h]
      show (m.freeSlot c).ra.tankTotal - s.ra.tankTotal = 0 - w.tankRemaining
      rw [freed.tank, calm.tank, tank]
      exact Int.sub_eq_zero.2 only.tank
    · rw [gone, h]
      show (m.freeSlot c).ra.basinTotal - s.ra.basinTotal = 0 - w.basinRemaining
      rw [freed.basin, calm.basin, basin]
      exact Int.sub_eq_zero.2 only.basin
  · exact freed.entries (calm.entries (only.entries law))
  · refine law.retire (c := c) (f := w.filter) ?_ (fun k => dry (((freed.states w.filter).trans (calm.states w.filter)).symm.trans k))
      (fun f e => (freed.states f).trans ((calm.states f).trans (only.states f e)))
      (fun f e => (freed.movements f).trans ((calm.movements f).trans (only.movements f e)))
      ((State.role_eq_none_iff ..).2 gone) (fun d e => role_of_others others e) mode
    rw [State.role_of_ctx h]
    simp [live]
  · refine shedLaw_of law (by rw [shed]; exact List.filter_sublist) fun d m' ok => ?_
    rw [shed] at m'
    rwa [others d (by simpa using (List.mem_filter.1 m').2)]

/-- A wash ends: its commitments are released, and its filter takes another state than WASH. -/
theorem Keeps.endWash {m : State} {g : FilterRecord → FilterRecord} {st : FilterState} (h : s.ctx c = some w)
    (live : w.state ≠ .orphan) (kept : ∀ r, (g r).state = r.state) (dry : st ≠ .wash)
    (calm : Calm ((((s.releaseCommitments c).modFilter w.filter g).changeState w.filter st).shedRemove c) m) :
    Keeps s (m.freeSlot c) :=
  (releaseCommitments s c).trans
    (retire (releaseCommitments_ctx_same h) live rfl rfl (OnlyFilter.shift (s.releaseCommitments c) w.filter (kept _) dry)
      (by rw [State.changeState_filter_same]; exact dry) calm)

namespace Keeps

theorem completeWash (h : s.ctx c = some w) (live : w.state ≠ .orphan) : Keeps s (s.completeWash c) := by
  unfold State.completeWash
  rw [State.withCtx_some h]
  refine endWash (g := fun r => freshlyWashed { r with commanded := some .service }) (st := .service) h live (fun _ => rfl)
    (by decide) ?_
  refine Calm.trans ?_ (Calm.raise _ _ _)
  refine Calm.trans ?_ (Calm.requestRewash _ _ _)
  exact Calm.recordWash _ _ _ _ _ _

theorem endReturnExit (h : s.ctx c = some w) (live : w.state ≠ .orphan) : Keeps s (s.endReturnExit c) := by
  unfold State.endReturnExit
  rw [State.withCtx_some h]
  refine endWash (g := fun r => { r with commanded := some .service, rewashPending := w.secondAttempt || r.rewashPending })
    (st := .service) h live (fun _ => rfl) (by decide) ?_
  refine Calm.trans ?_ (Calm.raise _ _ _)
  refine Calm.trans ?_ (Calm.recordWash _ _ _ _ _ _)
  refine Calm.reinsert ?_
  unfold State.queueable
  rw [State.shedRemove_filter]
  show (decide ((State.filter (State.changeState _ w.filter .service) w.filter).state = _) || _) = true
  rw [State.changeState_filter_same]
  rfl

theorem endSafeExit (h : s.ctx c = some w) (live : w.state ≠ .orphan) : Keeps s (s.endSafeExit c) := by
  unfold State.endSafeExit
  rw [State.withCtx_some h]
  refine endWash (g := fun r => { r with commanded := some .isolated, held := some .dirty }) (st := .held) h live
    (fun _ => rfl) (by decide) ?_
  refine Calm.trans ?_ (Calm.raise _ _ _)
  exact Calm.ite (Calm.recordWash _ _ _ _ _ _) (Calm.recordWash _ _ _ _ _ _)

theorem endLateExit (h : s.ctx c = some w) (live : w.state ≠ .orphan) : Keeps s (s.endLateExit c) := by
  unfold State.endLateExit
  rw [State.withCtx_some h]
  refine endWash (g := fun r => { r with commanded := some .service, shortRipen := true }) (st := .service) h live
    (fun _ => rfl) (by decide) ?_
  refine Calm.trans ?_ (Calm.raise _ _ _)
  exact Calm.recordWash _ _ _ _ _ _

theorem endExit (h : s.ctx c = some w) (live : w.state ≠ .orphan) (k : ExitKind) : Keeps s (s.endExit c k) := by
  cases k
  · exact endReturnExit h live
  · exact endSafeExit h live
  · exact endLateExit h live

end Keeps

/-! ### A wash is orphaned -/

namespace Beside

variable {t u : State}

theorem trans (b : Beside c s t) (k : Beside c t u) : Beside c s u :=
  ⟨fun f => (k.states f).trans (b.states f), fun f => (k.movements f).trans (b.movements f),
    fun d e => (k.others d e).trans (b.others d e), k.tank.trans b.tank, k.basin.trans b.basin, k.shed.trans b.shed,
    k.mode.trans b.mode, k.maxOut.trans b.maxOut, k.entries ∘ b.entries, k.counts ∘ b.counts⟩

theorem modCtx (s : State) (c : Slot) (g : WashContext → WashContext) : Beside c s (s.modCtx c g) := setCtx s c _

theorem stopHeld (h : s.ctx c = some w) : Beside c s (s.stopHeld c) := by
  rw [stopHeld_eq h]
  exact ⟨fun _ => rfl, fun _ => rfl, fun _ e => State.setCtx_ctx_other s e _, rfl, rfl, rfl, rfl, rfl,
    fun law => entryLaw_of law (fun _ m => m) fun _ => rfl, id⟩

theorem makeOrphan (h : s.ctx c = some w) : Beside c s (s.makeOrphan c) := by
  rw [makeOrphan_eq h]
  exact ⟨fun _ => rfl, fun _ => rfl, fun _ e => State.setCtx_ctx_other s e _, rfl, rfl, rfl, rfl, rfl,
    fun law => entryLaw_of law (fun _ m => m) fun _ => rfl, id⟩

end Beside

theorem makeOrphan_ctx (h : s.ctx c = some w) : (s.makeOrphan c).ctx c =
    some { w with state := .orphan, exitStart := none, windowStart := none, lowFlowStart := none } := by
  rw [makeOrphan_eq h]
  exact ctx_written rfl

theorem makeOrphan_header (h : s.ctx c = some w) (g : Header) : (s.makeOrphan c).header g = orphaned c (s.header g) := by
  rw [makeOrphan_eq h]
  cases g <;> rfl

theorem orphaned_slots (c : Slot) (e : HeaderEntry) :
    (orphaned c e).holdings.map (fun x => x.slot) = e.holdings.map fun x => x.slot := by
  simp only [orphaned, List.map_map]
  refine List.map_congr_left fun x _ => ?_
  simp only [Function.comp]
  split <;> rfl

/-- A wash is orphaned: its filter is left in a state of an orphan's filter without a movement, its context is ORPHAN, and its
slot leaves the shed list. -/
theorem Keeps.orphaned {y x : State} {v : WashContext} (h : s.ctx c = some w) (live : WashLaws s → w.state ≠ .orphan)
    (only : OnlyFilter w.filter s y) (after : (y.filter w.filter).state.orphaned)
    (still : WashLaws s → (y.filter w.filter).pending = none) (beside : Beside c y x) (now : x.ctx c = some v)
    (orphan : v.state = .orphan) (filter : v.filter = w.filter) (tank : v.tankRemaining = w.tankRemaining)
    (basin : v.basinRemaining = w.basinRemaining) (header : ∀ k, x.header k = Claim.orphaned c (y.header k)) :
    Keeps s (x.shedRemove c) := by
  have now : (x.shedRemove c).ctx c = some v := now
  have others : ∀ d, d ≠ c → (x.shedRemove c).ctx d = s.ctx d := fun d e => (beside.others d e).trans (only.ctx d)
  have headers : ∀ k, (x.shedRemove c).header k = Claim.orphaned c (s.header k) := fun k => by
    rw [State.shedRemove_header, header]
    unfold State.header
    rw [only.headers]
  have shed : (x.shedRemove c).au.shed = s.au.shed.filter fun y => y != c :=
    congrArg (List.filter fun y => y != c) (beside.shed.trans only.shed)
  have mode : (x.shedRemove c).mc.mode = s.mc.mode := beside.mode.trans only.mode
  refine ⟨⟨fun law => beside.counts (only.counts law), fun law => ?_, fun law => ?_, fun law => ?_,
    fun law => slotLaw_of law (fun d free => ?_) mode (beside.maxOut.trans only.maxOut), fun law => ?_⟩,
    headers_of_left others (fun k => ?_) (.inl (by rw [now]; exact Option.some_ne_none _))⟩
  · refine commitmentLaw_of law others ?_ ?_
    · rw [now, h]
      show x.ra.tankTotal - s.ra.tankTotal = v.tankRemaining - w.tankRemaining
      rw [tank, beside.tank, only.tank]
      omega
    · rw [now, h]
      show x.ra.basinTotal - s.ra.basinTotal = v.basinRemaining - w.basinRemaining
      rw [basin, beside.basin, only.basin]
      omega
  · exact entryLaw_of (beside.entries (only.entries law)) (fun _ m => m) fun _ => rfl
  · refine law.orphan (c := c) (f := w.filter) ?_ ?_ ?_ (fun f e => (beside.states f).trans (only.states f e))
      (fun f e => (beside.movements f).trans (only.movements f e)) ?_ (fun d e => role_of_others others e) mode
    · rw [State.role_of_ctx h]
      simp [live law]
    · rw [State.shedRemove_filter, beside.states]
      exact after
    · exact (beside.movements _).trans (still law)
    · rw [State.role_of_ctx now, filter, orphan]
      rfl
  · have e : d ≠ c := by
      rintro rfl
      rw [h] at free
      exact nomatch free
    rwa [others d e]
  · refine shedLaw_of law (by rw [shed]; exact List.filter_sublist) fun d m' ok => ?_
    rw [shed] at m'
    rwa [others d (by simpa using (List.mem_filter.1 m').2)]
  · rw [headers, orphaned_slots]
    exact ⟨rfl, List.Sublist.refl _⟩

theorem stopHeld_ctx (h : s.ctx c = some w) : (s.stopHeld c).ctx c = some (stoppedContext s c w) := by
  rw [stopHeld_eq h]
  exact ctx_written rfl

theorem stopHeld_header (h : s.ctx c = some w) (g : Header) : (s.stopHeld c).header g = s.header g := by
  rw [stopHeld_eq h]
  rfl

/-- The wash of a filter that leaves WASH, by the loss of its node or its LOCAL switch, is orphaned. -/
theorem Keeps.orphan {y : State} (h : s.ctx c = some w) (live : WashLaws s → w.state ≠ .orphan)
    (only : OnlyFilter w.filter s y) (after : (y.filter w.filter).state.orphaned)
    (still : (y.filter w.filter).pending = none) (x : FaultCause) (o : WashOutcome) : Keeps s (y.orphan c x o) := by
  have here : y.ctx c = some w := (only.ctx c).trans h
  unfold State.orphan
  rw [State.withCtx_some here]
  dsimp only
  generalize (if w.state = .exiting then some x else none) = second
  have stopped := stopHeld_ctx here
  have marked : ((y.stopHeld c).modCtx c fun w => { w with secondCause := second }).ctx c =
      some { stoppedContext y c w with secondCause := second } := by
    rw [State.modCtx_some stopped]
    exact State.ctx_setCtx_same ..
  have beside := ((Beside.stopHeld here).trans (Beside.modCtx _ c fun w => { w with secondCause := second })).trans
    (Beside.makeOrphan marked)
  have now := makeOrphan_ctx marked
  have header : ∀ k, _ := fun k => (makeOrphan_header marked k).trans (congrArg (Claim.orphaned c) (stopHeld_header here k))
  generalize State.makeOrphan _ c = m at beside now header ⊢
  refine trans ?_ (freeIfBare _ c)
  have recorded : ∀ u, Calm m u → Keeps s (u.shedRemove c) := fun u calm =>
    orphaned h live only after (fun _ => still) (beside.trans (calm.beside c)) ((calm.ctx c).trans now) rfl rfl rfl rfl
      fun k => (calm.header k).trans (header k)
  refine recorded _ (Calm.trans ?_ (Calm.raise _ _ _))
  exact Calm.recordWash _ _ _ _ _ _

theorem WashLaws.live (law : WashLaws s) (h : s.ctx c = some w) (wash : (s.filter w.filter).state = .wash) :
    w.state ≠ .orphan := by
  obtain ⟨d, hd⟩ := (law.wash w.filter).1 wash
  have e := law.once c d w.filter _ _ (State.role_of_ctx h) hd
  rw [← e, State.role_of_ctx h] at hd
  simpa using hd

/-- The wash of a filter in WASH that takes a state of an orphan's filter. -/
theorem Keeps.orphanWash {f : FilterId} {y : State} (wash : (s.filter f).state = .wash) (only : OnlyFilter f s y)
    (after : (y.filter f).state.orphaned) (still : (y.filter f).pending = none) (x : FaultCause) (o : WashOutcome) :
    Keeps s (y.orphanWash f x o) := by
  have naming : y.slotNaming f = s.slotNaming f := by
    unfold State.slotNaming
    simp only [only.ctx]
  unfold State.orphanWash
  rw [naming]
  split
  · rename_i c named
    obtain ⟨w, h, rfl⟩ := State.slotNaming_names named
    exact orphan h (fun law => law.live h wash) only after still x o
  · rename_i none
    refine only.keeps fun law => ?_
    obtain ⟨c, hc⟩ := (law.wash f).1 wash
    have off := List.find?_eq_none.1 none c (List.mem_finRange c)
    exact absurd ((names_iff_role s c f).2 ⟨false, hc⟩) (by unfold names; cases k : s.ctx c <;> simp_all)

end Sys2Proof.Machine

/-! SUPPORT. Failed and converted exits, admissions, shedding, and the events of a filter's answers keep the laws (R9, R17, R41,
R50 to R63, R85, R134, R136, R153). -/

namespace Sys2Proof.Machine

open Sys2Proof.Safety Sys2Proof.Claim

variable {s : State} {c : Slot} {w : WashContext} {f : FilterId}

/-! ### Exits that fail or are converted -/

theorem shedRemove_freeIfBare (s : State) (c : Slot) : (s.freeIfBare c).shedRemove c = (s.shedRemove c).freeIfBare c := by
  rw [freeIfBare_eq, freeIfBare_eq]
  unfold freedWhenBare
  rw [State.shedRemove_ctx]
  cases s.ctx c with
  | none => rfl
  | some w =>
    dsimp only
    split
    · rename_i bare
      exact (if_pos bare).symm
    · rename_i bare
      exact (if_neg bare).symm

/-- The exit of a wash fails. -/
theorem Keeps.failExit (h : s.ctx c = some w) (live : w.state ≠ .orphan) : Keeps s (s.failExit c) := by
  unfold State.failExit
  rw [State.withCtx_some h]
  dsimp only
  rw [shedRemove_freeIfBare]
  refine trans ?_ (freeIfBare _ c)
  have failed : ∀ x p u,
      Calm ((s.modFilter w.filter fun r => { r with fault := x, commanded := p }).changeState w.filter .fault) u →
        Keeps s (((u.modCtx c fun w => { w with secondCause := some .valveTravel }).makeOrphan c).shedRemove c) := by
    intro x p u calm
    have moved := OnlyFilter.shift (g := fun r => { r with fault := x, commanded := p }) (st := .fault) s w.filter rfl
      (by decide)
    have here := OnlyFilter.shift_filter s w.filter (fun r => { r with fault := x, commanded := p }) .fault
    have ctx : u.ctx c = some w := (calm.ctx c).trans ((moved.ctx c).trans h)
    have marked : (u.modCtx c fun w => { w with secondCause := some .valveTravel }).ctx c =
        some { w with secondCause := some .valveTravel } := by
      rw [State.modCtx_some ctx]
      exact State.ctx_setCtx_same ..
    refine orphaned h (fun _ => live) moved (by rw [here]; exact .inr (.inl rfl)) (fun law => ?_)
      (((calm.beside c).trans (Beside.modCtx _ c _)).trans (Beside.makeOrphan marked)) (makeOrphan_ctx marked) rfl rfl rfl rfl
      fun k => (makeOrphan_header marked k).trans (congrArg (Claim.orphaned c) (calm.header k))
    rw [here]
    exact (law.quiet c w.filter _ (State.role_of_ctx h))
  apply failed
  refine Calm.trans ?_ (Calm.raise _ _ _)
  refine Calm.trans ?_ (Calm.recordWash _ _ _ _ _ _)
  exact Calm.raise _ _ _

theorem Keeps.shedRemove (s : State) (c : Slot) : Keeps s (s.shedRemove c) := by
  have sub : (s.shedRemove c).au.shed.Sublist s.au.shed := List.filter_sublist
  exact ⟨⟨id, id, id, fun law => law.congr (fun _ => rfl) (fun _ => rfl) (fun _ => rfl) rfl, id,
    fun law => shedLaw_of law sub fun _ _ ok => ok⟩, id⟩

/-- A trip converts the exit of a wash to SAFE-EXIT. -/
theorem Keeps.convertExit (h : s.ctx c = some w) (exiting : w.state = .exiting) : Keeps s (s.convertExit c) := by
  refine trans (shedRemove s c) ?_
  unfold State.convertExit
  rw [State.withCtx_some h]
  refine Keeps.trans (t := (s.shedRemove c).setCtx c (some { w with
    exitKind := some .safeExit
    cause := if w.cause.isNone then some .trip else w.cause
    secondCause := if w.cause.isNone then w.secondCause else some .trip
    valveItems := some (s.captureValves c w)
    exitStart := some s.now
    answered := false })) ?_ (Calm.writePattern _ w.filter .isolated).keeps
  have h' : (s.shedRemove c).ctx c = some w := h
  refine ⟨Sound.of_beside (Beside.setCtx _ c _) ?_ ?_ ?_ fun m => ?_, headers_of_beside (Beside.setCtx _ c _) rfl (by simp)
    (.inr ?_)⟩
  · rw [State.role_of_ctx h', State.role_of_ctx (State.ctx_setCtx_same ..)]
  · rw [State.ctx_setCtx_same, h']
    rfl
  · rw [State.ctx_setCtx_same, h']
    rfl
  · exact absurd m (by simp [State.shedRemove])
  · rw [h']
    rintro ⟨x, hx, active, -⟩
    cases hx
    rw [exiting] at active
    exact nomatch active

/-! ### Shedding -/

theorem shedAdd_eq (out : c ∉ s.au.shed) :
    s.shedAdd c = { s with au := { s.au with shed := s.au.shed ++ [c] } } := if_neg out

theorem shedOne_eq (h : s.ctx c = some w) (out : c ∉ s.au.shed) (k : ExitKind) :
    s.shedOne (c, k) = Claim.exitState { s with au := { s.au with shed := s.au.shed ++ [c] } } c w k none none := by
  unfold State.shedOne
  dsimp only
  rw [shedAdd_eq out]
  exact (State.withCtx_some (s := { s with au := { s.au with shed := s.au.shed ++ [c] } }) h _).trans (decideExitAs_eq ..)

/-- One context is shed. -/
theorem Keeps.shedOne (h : s.ctx c = some w) (active : w.state = .active) (out : c ∉ s.au.shed) {k : ExitKind}
    (kind : k ≠ .safeExit) : Keeps s (s.shedOne (c, k)) := by
  rw [shedOne_eq h out]
  have exit := Keeps.exitState (s := { s with au := { s.au with shed := s.au.shed ++ [c] } }) (k := k) h
    (by rw [active]; decide) (.inl active) none none
  refine ⟨⟨fun law => exit.counts law, fun law => exit.commitments law, fun law => exit.entries law,
    fun law => exit.washes (law.congr (fun _ => rfl) (fun _ => rfl) (fun _ => rfl) rfl), fun law => exit.slots law,
    fun law => ?_⟩, fun law => exit.headers law⟩
  obtain ⟨once, shed⟩ := law
  refine ⟨List.nodup_append.2 ⟨once, List.pairwise_singleton _ c, fun a ha b hb => ?_⟩, fun d m => ?_⟩
  · rw [List.mem_singleton.1 hb]
    exact fun e => out (e ▸ ha)
  · by_cases e : d = c
    · subst e
      exact ⟨_, exitState_ctx_same _ d w k none none, rfl, fun e => kind (Option.some.inj e)⟩
    · rw [exitState_ctx_ne _ e]
      refine shed d ?_
      simpa [Claim.exitState, e] using m

theorem insertSlot_perm (before : Slot → Slot → Bool) (c : Slot) (l : List Slot) : (insertSlot before c l).Perm (c :: l) := by
  induction l with
  | nil => exact .refl _
  | cons d ds ih =>
    unfold insertSlot
    split
    · exact .refl _
    · exact (ih.cons d).trans (.swap c d ds)

theorem sortSlots_perm (before : Slot → Slot → Bool) (l : List Slot) : (sortSlots before l).Perm l := by
  induction l with
  | nil => exact .refl _
  | cons c cs ih => exact (insertSlot_perm before c _).trans (ih.cons c)

/-- The candidates to shed are different slots, each with an ACTIVE context outside the shed list, and none is shed by a
SAFE-EXIT. -/
theorem shedCandidates_spec (s : State) :
    (s.shedCandidates.map Prod.fst).Nodup ∧ ∀ x ∈ s.shedCandidates, s.shedable x.1 = true ∧ x.2 ≠ .safeExit := by
  have ripe : ∀ d ∈ s.ripeningGroup, s.shedable d = true ∧ s.ripening d = true := fun d m => by
    simpa [allSlots] using (sortSlots_perm _ _).mem_iff.1 m
  have early : ∀ d ∈ s.undisturbedGroup, s.shedable d = true ∧ s.ripening d = false := fun d m => by
    have := (sortSlots_perm _ _).mem_iff.1 m
    simp only [allSlots, List.mem_filter, List.mem_finRange, true_and, Bool.and_eq_true, Bool.not_eq_true'] at this
    exact this.1
  have once : ∀ p : Slot → Bool, (allSlots.filter p).Nodup := fun p => (List.nodup_finRange 4).filter p
  refine ⟨?_, fun x m => ?_⟩
  · unfold State.shedCandidates
    rw [List.map_append, List.map_map, List.map_map]
    refine List.nodup_append.2 ⟨?_, ?_, fun a ha b hb => ?_⟩
    · exact (List.map_id _).symm ▸ ((sortSlots_perm _ _).nodup_iff.2 (once _))
    · exact (List.map_id _).symm ▸ ((sortSlots_perm _ _).nodup_iff.2 (once _))
    · rintro rfl
      simp only [Function.comp_def, List.map_id'] at ha hb
      have := (ripe a ha).2
      rw [(early a hb).2] at this
      exact nomatch this
  · unfold State.shedCandidates at m
    rcases List.mem_append.1 m with m | m
    · obtain ⟨d, hd, rfl⟩ := List.mem_map.1 m
      exact ⟨(ripe d hd).1, nofun⟩
    · obtain ⟨d, hd, rfl⟩ := List.mem_map.1 m
      exact ⟨(early d hd).1, nofun⟩

/-- Contexts shed one after another. -/
theorem Keeps.foldl_shedOne (l : List (Slot × ExitKind)) (s : State) (once : (l.map Prod.fst).Nodup)
    (ok : ∀ x ∈ l, s.shedable x.1 = true ∧ x.2 ≠ .safeExit) : Keeps s (l.foldl State.shedOne s) := by
  induction l generalizing s with
  | nil => exact refl s
  | cons x xs ih =>
    obtain ⟨c, k⟩ := x
    obtain ⟨fresh, once⟩ := List.nodup_cons.1 once
    obtain ⟨shedable, kind⟩ := ok (c, k) List.mem_cons_self
    unfold State.shedable at shedable
    rw [Bool.and_eq_true, ctxIs_iff] at shedable
    obtain ⟨⟨w, h, active⟩, out⟩ := shedable
    have out : c ∉ s.au.shed := by simpa using out
    refine (shedOne h active out kind).trans (ih _ once fun y m => ⟨?_, (ok y (List.mem_cons_of_mem _ m)).2⟩)
    have e : y.1 ≠ c := fun e => fresh (e ▸ (List.mem_map_of_mem m : y.1 ∈ xs.map Prod.fst))
    have others : (s.shedOne (c, k)).ctx y.1 = s.ctx y.1 := by
      rw [shedOne_eq h out]
      exact exitState_ctx_ne _ e _ _ _ _
    have shed : (s.shedOne (c, k)).au.shed = s.au.shed ++ [c] := by
      rw [shedOne_eq h out]
      rfl
    have old := (ok y (List.mem_cons_of_mem _ m)).1
    unfold State.shedable State.ctxIs at old ⊢
    rw [others, shed]
    simpa [e] using old

theorem Keeps.shedding (s : State) : Keeps s s.shedding := by
  obtain ⟨once, ok⟩ := shedCandidates_spec s
  exact ite (fun _ => foldl_shedOne _ s (once.sublist ((List.take_sublist _ _).map _)) fun x m => ok x (List.mem_of_mem_take m))
    fun _ => refl s

/-! ### The isolation pass -/

theorem Keeps.passEntry (s : State) (e : QueueEntry) : Keeps s (s.passEntry e) := by
  refine ite (fun considered => ?_) fun _ => refl s
  simp only [State.passConsiders, State.inService, Bool.and_eq_true, decide_eq_true_eq] at considered
  obtain ⟨⟨-, service⟩, -⟩ := considered
  have drawn : ∀ b, Calm s (s.drawIf b) := Calm.drawIf s
  refine ite (fun _ => (drawn _).keeps.trans (startMovement false ?_ fun law => law.unnamed_of_queueable ?_)) fun _ => (drawn _).keeps
  · rw [(drawn _).states, service]
    decide
  · unfold State.queueable
    rw [(drawn _).states, service]
    rfl

theorem Keeps.isolationPass (s : State) : Keeps s s.isolationPass := foldl passEntry _ _

end Sys2Proof.Machine

/-! SUPPORT. An admission, the admission unit, and the events and answers of a filter keep the laws (R9, R17, R50 to R58, R85,
R150, R153). -/

namespace Sys2Proof.Machine

open Sys2Proof.Safety Sys2Proof.Claim

variable {s : State} {c : Slot} {w : WashContext} {f : FilterId}

/-! ### Admission -/

/-- A filter is taken to WASH, and its entry out of the queue. -/
theorem OnlyFilter.takeToWash (s : State) (f : FilterId) : OnlyFilter f s ((s.removeEntry f).takeToWash f) := by
  refine ((Calm.removeEntry s f).only f).trans ?_
  have gone : ∀ e ∈ (s.removeEntry f).wq.entries, e.filter ≠ f := fun e m => (mem_removeEntry.1 m).2
  generalize s.removeEntry f = u at gone ⊢
  unfold State.takeToWash
  generalize marked : (u.modFilter f fun r =>
    { r with held := none, pending := none, offCounts := PerValve.all false, rewashPending := false }) = v
  have only : OnlyFilter f u v := by
    rw [← marked]
    exact OnlyFilter.modFilter u f rfl
  have queue : v.wq = u.wq := by
    rw [← marked]
    rfl
  refine only.trans ⟨fun g e => ?_, fun g e => ?_, v.changeState_ss f _, by rw [v.changeState_ra], by rw [v.changeState_ra],
    by rw [v.changeState_ra], v.changeState_shed f _, by rw [v.changeState_mc], ?_, fun law e m => ?_, changeState_counts⟩
  · rw [v.changeState_filter_ne fun k => e k.symm]
  · rw [v.changeState_filter_ne fun k => e k.symm]
  · unfold State.plant
    rw [v.changeState_cs]
  · have old := (mem_changeState m).1
    have ne : f ≠ e.filter := fun k => gone e (queue ▸ old) k.symm
    unfold State.queueable
    rw [v.changeState_filter_ne ne]
    exact law e old

theorem takeToWash_filter (s : State) (f : FilterId) :
    ((s.takeToWash f).filter f).state = .wash ∧ ((s.takeToWash f).filter f).pending = none := by
  unfold State.takeToWash
  rw [OnlyFilter.shift_filter]
  exact ⟨rfl, rfl⟩

theorem length_filter_allSlots (p : Slot → Bool) :
    (allSlots.filter p).length = (p 0).toNat + (p 1).toNat + (p 2).toNat + (p 3).toNat := by
  have bit : ∀ b : Bool, (if b = true then 1 else 0) = b.toNat := by decide
  rw [← List.countP_eq_length_filter]
  simp only [show allSlots = [0, 1, 2, 3] from rfl, List.countP_cons, List.countP_nil, bit]
  omega

/-- One context that is not FREE more, at most. -/
theorem busySlots_le_succ {s t : State} (others : ∀ d, d ≠ c → t.ctx d = s.ctx d) : t.busySlots ≤ s.busySlots + 1 := by
  have sum : ∀ u : State, (u.busySlots : Int) = sumSlots u fun x => x.isSome.toNat := fun u => by
    unfold State.busySlots sumSlots
    rw [length_filter_allSlots]
    push_cast
    rfl
  have change := sumSlots_change others fun x => x.isSome.toNat
  have one := (t.ctx c).isSome.toNat_le
  have t' := sum t
  have s' := sum s
  omega

/-- A wash is admitted into a FREE slot, for a filter that no context names. -/
theorem Keeps.takeIn {v : State} (only : OnlyFilter f s v) (wash : (v.filter f).state = .wash)
    (still : (v.filter f).pending = none) (free : s.ctx c = none) (unnamed : WashLaws s → Unnamed s f)
    (room : s.busySlots < s.plant.maxOut) (modes : ¬ (s.mc.mode = .survey ∨ s.mc.mode = .setup)) {e : QueueEntry}
    {copy : ProfileCopy} {now : Seconds} {second : Bool} :
    Keeps s ((v.commit copy).setCtx c (some (newContext f e copy now second))) := by
  generalize wd : newContext f e copy now second = w
  have active : w.state = .active := by rw [← wd]; rfl
  have filter : w.filter = f := by rw [← wd]; rfl
  have after : ((v.commit copy).setCtx c (some w)).ctx c = some w := State.ctx_setCtx_same ..
  have others : ∀ d, d ≠ c → ((v.commit copy).setCtx c (some w)).ctx d = s.ctx d := fun d e =>
    (State.setCtx_ctx_other _ e _).trans (only.ctx d)
  have header : ∀ k, ((v.commit copy).setCtx c (some w)).header k = s.header k := fun k => by
    unfold State.header
    rw [← only.headers]
    rfl
  have filters : ∀ g, ((v.commit copy).setCtx c (some w)).filter g = v.filter g := fun _ => rfl
  have mode : ((v.commit copy).setCtx c (some w)).mc.mode = s.mc.mode := only.mode
  have maxOut : ((v.commit copy).setCtx c (some w)).plant.maxOut = s.plant.maxOut := only.maxOut
  have tank : ((v.commit copy).setCtx c (some w)).ra.tankTotal = s.ra.tankTotal + copy.waterDemand :=
    congrArg (· + (copy.waterDemand : Int)) only.tank
  have basin : ((v.commit copy).setCtx c (some w)).ra.basinTotal = s.ra.basinTotal + copy.wasteDemand :=
    congrArg (· + (copy.wasteDemand : Int)) only.basin
  have shed : ((v.commit copy).setCtx c (some w)).au.shed = s.au.shed := only.shed
  refine ⟨⟨fun law => ?_, fun law => ?_, fun law => ?_, fun law => ?_, fun law => ⟨?_, fun m => ?_⟩, fun law => ?_⟩,
    fun law => ?_⟩
  · exact only.counts law
  · refine commitmentLaw_of law others ?_ ?_
    · rw [tank, after, free, ← wd]
      show s.ra.tankTotal + copy.waterDemand - s.ra.tankTotal = (copy.waterDemand : Int) - 0
      omega
    · rw [basin, after, free, ← wd]
      show s.ra.basinTotal + copy.wasteDemand - s.ra.basinTotal = (copy.wasteDemand : Int) - 0
      omega
  · exact entryLaw_of (only.entries law) (fun _ m => m) fun _ => rfl
  · refine law.takeIn (c := c) (f := f) ?_ (unnamed law) wash still only.states only.movements ?_
      (fun d e => role_of_others others e) (by rwa [mode])
    · rwa [State.role_eq_none_iff]
    · rw [State.role_of_ctx after, filter, active]
      rfl
  · rw [maxOut]
    exact Nat.le_trans (busySlots_le_succ others) room
  · exact absurd (.inr (mode ▸ m)) modes
  · refine shedLaw_of law (by simp only [shed, List.Sublist.refl]) fun d _ ok => ?_
    have e : d ≠ c := by
      rintro rfl
      obtain ⟨x, hx, -⟩ := ok
      rw [free] at hx
      exact nomatch hx
    rwa [others d e]
  · have ne : ∀ d, s.ctx d ≠ none → d ≠ c := fun d k e => k (e ▸ free)
    refine headerTableLaw_of law (fun k => by simp only [header, List.Sublist.refl])
      (fun k => by simp only [header, List.Sublist.refl]) (fun _ d _ k => ?_) fun _ d _ ok => ?_
    · rwa [others d (ne d k)]
    · have k : s.ctx d ≠ none := by
        obtain ⟨x, hx, -⟩ := ok
        rw [hx]
        exact Option.some_ne_none x
      rwa [others d (ne d k)]

theorem Keeps.admitFilter (q : s.queueable f = true) (free : s.ctx c = none) (room : s.busySlots < s.plant.maxOut)
    (modes : ¬ (s.mc.mode = .survey ∨ s.mc.mode = .setup)) (n : Nat) (steps : List ProfileStep) :
    Keeps s (s.admitFilter f c n steps) := by
  unfold State.admitFilter
  dsimp only
  have only := OnlyFilter.takeToWash s f
  obtain ⟨wash, still⟩ := takeToWash_filter (s.removeEntry f) f
  generalize (s.removeEntry f).takeToWash f = v at only wash still ⊢
  generalize copyProfile n s.plant.ftwRate steps = copy
  have admitted := Keeps.takeIn only wash still free (fun law => law.unnamed_of_queueable q) room modes
    (e := s.admissionEntry f) (copy := copy) (now := (v.commit copy).now) (second := (s.filter f).rewashPending)
  have header : ∀ k, ((v.commit copy).setCtx c (some (newContext f (s.admissionEntry f) copy (v.commit copy).now
      (s.filter f).rewashPending))).header k = s.header k := fun k => by
    unfold State.header
    rw [← only.headers]
    rfl
  have ctx := State.ctx_setCtx_same (v.commit copy) c (some (newContext f (s.admissionEntry f) copy (v.commit copy).now
      (s.filter f).rewashPending))
  generalize State.setCtx _ c _ = x at admitted header ctx ⊢
  have calm : Calm x ((x.noteAdmission f).raise .washStart (filterNumber f)) := (Calm.noteAdmission x f).trans (Calm.raise _ _ _)
  refine ⟨(admitted.toSound.trans calm.sound).trans (Sound.beginStep _ c 0), fun law => ?_⟩
  have unlisted := unlisted_of_not_asking (c := c) law (by
    rw [free]
    rintro ⟨_, hx, -⟩
    exact nomatch hx)
  refine headerTableLaw_beginStep (calm.keeps.headers (admitted.headers law)) ((calm.ctx c).trans ctx) rfl (fun k => ?_) 0
  rw [calm.header, header]
  exact unlisted k

/-! ### The admission unit -/

theorem freeSlot?_free (h : s.freeSlot? = some c) : s.ctx c = none := by simpa using List.find?_some h

theorem room_of_slotGate (h : s.slotGate = true) : s.busySlots < s.plant.maxOut := by
  unfold State.slotGate at h
  rw [Bool.and_eq_true, decide_eq_true_eq] at h
  exact h.2

theorem queueable_of_passOver (h : s.passOver f = none) : s.queueable f = true := by
  unfold State.passOver at h
  dsimp only at h
  split at h
  · exact nomatch h
  · rename_i k
    rwa [Bool.not_eq_true', Bool.not_eq_false] at k

theorem Keeps.walk (room : s.slotGate = true) (modes : ¬ (s.mc.mode = .survey ∨ s.mc.mode = .setup)) : Keeps s s.walk := by
  unfold State.walk
  split
  · exact (Calm.setCheck _ _).keeps
  · rename_i e found
    split
    · rename_i p c _ free
      have eligible := List.find?_some found
      exact admitFilter (queueable_of_passOver (by simpa using eligible)) (freeSlot?_free free) (room_of_slotGate room) modes _ _
    · exact refl s

theorem Keeps.admissionCheck (modes : ¬ (s.mc.mode = .survey ∨ s.mc.mode = .setup)) : Keeps s s.admissionCheck := by
  unfold State.admissionCheck
  split
  · exact (Calm.setCheck _ _).keeps
  · rename_i pass
    refine walk ?_ modes
    unfold State.failingGate at pass
    split at pass
    · exact nomatch pass
    · split at pass
      · exact nomatch pass
      · rename_i k
        simpa using k

theorem Keeps.admissionUnit (s : State) : Keeps s s.admissionUnit := by
  unfold State.admissionUnit
  have checked : ∀ t r, Calm t (t.setCheck r) := fun _ _ => Calm.setCheck _ _
  split
  · exact (checked _ _).keeps
  · exact (isolationPass s).trans (checked _ _).keeps
  · exact ((isolationPass s).trans (shedding _)).trans (checked _ _).keeps
  · rename_i mode
    refine ((isolationPass s).trans (shedding _)).trans (admissionCheck ?_)
    rw [(PlantStep.shedding _).mc, (PlantStep.isolationPass s).mc, mode]
    decide

end Sys2Proof.Machine

/-! SUPPORT. The events and answers of a filter and of its wash keep the laws (R9, R17, R85, R115 to R120, R130, R150, R153). -/

namespace Sys2Proof.Machine

open Sys2Proof.Safety Sys2Proof.Claim

variable {s : State} {c : Slot} {w : WashContext} {f : FilterId}

namespace Keeps

/-! ### The loss of a node and the LOCAL switch -/

theorem filterLost (s : State) (f : FilterId) : Keeps s (s.filterLost f) := by
  unfold State.filterLost
  dsimp only
  have stale : Calm s (s.markStale f) := Calm.modFilter _ _ ⟨rfl, rfl⟩
  refine trans stale.keeps ?_
  generalize s.markStale f = t
  split
  · rename_i h
    exact toUnknown (by rw [h]; decide)
  · rename_i h
    exact toUnknown (by rw [h]; decide)
  · rename_i h
    exact toUnknown (by rw [h]; decide)
  · rename_i h
    refine (OnlyFilter.modFilter t f rfl).keeps fun law => (OnlyFilter.modFilter t f rfl).washes_of_orphaned law
      (by rw [h]; decide) ?_ ?_
    · rw [State.filter_modFilter_same]
      exact .inl h
    · rw [State.filter_modFilter_same]
  · rename_i h
    exact ite (fun _ => toUnknown (by rw [h]; decide)) fun _ => refl _
  · rename_i h
    refine orphanWash h (OnlyFilter.shift t f rfl (by decide)) ?_ ?_ _ _
    · rw [OnlyFilter.shift_filter]
      exact .inl rfl
    · rw [OnlyFilter.shift_filter]
  · exact refl _

theorem localSwitch (s : State) (f : FilterId) : Keeps s (s.localSwitch f) := by
  unfold State.localSwitch
  refine ite (fun _ => refl s) fun _ => ?_
  split
  · rename_i h
    exact takeLocal (by rw [h]; decide)
  · rename_i h
    exact takeLocal (by rw [h]; decide)
  · rename_i h
    exact takeLocal (by rw [h]; decide)
  · rename_i h
    exact ite (fun _ => refl s) fun _ => takeLocal (by rw [h]; decide)
  · rename_i h
    refine orphanWash h (OnlyFilter.shift s f rfl (by decide)) ?_ ?_ _ _
    · rw [OnlyFilter.shift_filter]
      exact .inr (.inr rfl)
    · rw [OnlyFilter.shift_filter]
  · exact refl s
  · exact refl s

theorem lostEvent (s : State) (n : NodeId) : Keeps s (s.lostEvent n) := by
  cases n
  · exact filterLost _ _
  · exact supplyLost _ _
  · exact supplyLost _ _
  · exact refl s

theorem filterTable (s : State) (f : FilterId) (i : FilterInput) (a b : Bool) : Keeps s (s.filterTable f i a b).1 := by
  unfold State.filterTable
  dsimp only
  have switched : Keeps s (if a = true then s.localSwitch f else s) := ite (fun _ => localSwitch s f) fun _ => refl s
  refine switched.trans ?_
  exact ((((Calm.viewAnswer _ f i).keeps.trans (movementAnswer _ f)).trans (classify _ f _ _ _)).trans
    (Calm.watchDrift _ f).keeps).trans (watchTrip _ f _)

/-! ### Answers for a wash -/

theorem stepConfirmed (h : s.ctx c = some w) (active : w.state = .active) (phase : w.phase ≠ .acquire) :
    Keeps s (s.stepConfirmed c) := by
  have busy := Busy.of_ctx h active phase
  unfold State.stepConfirmed
  rw [State.withCtx_some h]
  split
  · exact completeWash h (by rw [active]; decide)
  all_goals first | exact enterStarting busy | exact enterTiming busy

theorem ripenGood (busy : Busy s c) : Keeps s (s.ripenGood c) := by
  have marked : Keeps s (s.modCtx c fun w => { w with ripenResult := .good }) :=
    modCtx s c (fun _ => ⟨rfl, rfl, rfl, rfl, rfl⟩) fun _ => rfl
  exact marked.trans (endStep (busy.modCtx (fun _ => rfl) fun _ => rfl))

theorem watchRipen (busy : Busy s c) : Keeps s (s.watchRipen c) := withCtx fun w h => by
  have note : ∀ x, Keeps s (s.setCtx c (some { w with sustainStart := x })) := fun x =>
    setCtx h ⟨rfl, rfl, rfl, rfl, rfl⟩ rfl
  refine ite (fun _ => ?_) fun _ => note none
  split
  · exact note _
  · exact ite (fun _ => ripenGood busy) fun _ => refl s

theorem timingAnswer (busy : Busy s c) : Keeps s (s.timingAnswer c) := withCtx fun w h => by
  refine ite (fun _ => endStep busy) fun _ => ?_
  dsimp only
  have noted : ∀ x, Keeps s (s.setCtx c (some { w with offCounts := x })) := fun x =>
    setCtx h ⟨rfl, rfl, rfl, rfl, rfl⟩ rfl
  have after : ∀ x, Busy (s.setCtx c (some { w with offCounts := x })) c := fun x =>
    Busy.of_ctx (State.ctx_setCtx_same ..) (busy w h).1 (busy w h).2
  split
  · exact (noted _).trans (decideExit _ _ _ _)
  · exact ite (fun _ => (noted _).trans (watchRipen (after _))) fun _ => noted _

theorem enterTiming_busy (busy : Busy s c) : Busy (s.enterTiming c) c := by
  intro v hv
  unfold State.enterTiming at hv
  cases h : s.ctx c with
  | none =>
    rw [modCtx_none h, h] at hv
    exact nomatch hv
  | some w =>
    rw [State.modCtx_some h, State.ctx_setCtx_same] at hv
    cases hv
    exact ⟨(busy w h).1, nofun⟩

theorem stepConfirmed_timed (h : s.ctx c = some w)
    (timed : w.kind? = some .drain ∨ w.kind? = some .settle ∨ w.kind? = some .refill ∨ w.kind? = some .ripen) :
    s.stepConfirmed c = s.enterTiming c := by
  unfold State.stepConfirmed
  rw [State.withCtx_some h]
  rcases timed with k | k | k | k <;> rw [k]

theorem settingAnswer (h : s.ctx c = some w) (active : w.state = .active) (phase : w.phase ≠ .acquire) :
    Keeps s (s.settingAnswer c) := by
  have busy := Busy.of_ctx h active phase
  have timed : w.kind? = some .drain ∨ w.kind? = some .settle ∨ w.kind? = some .refill ∨ w.kind? = some .ripen →
      Keeps s ((s.stepConfirmed c).timingAnswer c) := fun k => by
    rw [stepConfirmed_timed h k]
    exact (enterTiming busy).trans (timingAnswer (enterTiming_busy busy))
  unfold State.settingAnswer
  rw [State.withCtx_some h]
  refine ite (fun _ => ?_) fun _ => refl s
  split
  · rename_i k
    exact timed (.inl k)
  · rename_i k
    exact timed (.inr (.inl k))
  · rename_i k
    exact timed (.inr (.inr (.inl k)))
  · rename_i k
    exact timed (.inr (.inr (.inr k)))
  · exact stepConfirmed h active phase

theorem activeAnswer (h : s.ctx c = some w) (active : w.state = .active) (tripped : Bool) : Keeps s (s.activeAnswer c tripped) := by
  unfold State.activeAnswer
  refine ite (fun _ => decideExit _ _ _ _) fun _ => ?_
  rw [State.withCtx_some h]
  split
  · rename_i phase
    exact settingAnswer h active (by rw [phase]; decide)
  · rename_i phase
    exact timingAnswer (Busy.of_ctx h active (by rw [phase]; decide))
  · exact refl s

theorem exitAnswer (h : s.ctx c = some w) (exiting : w.state = .exiting) (tripped : Bool) : Keeps s (s.exitAnswer c tripped) := by
  unfold State.exitAnswer
  rw [State.withCtx_some h]
  split
  · exact refl s
  · exact ite (fun _ => convertExit h exiting) fun _ => ite (fun _ => endExit h (by rw [exiting]; decide) _) fun _ => refl s

theorem sequencerAnswer (s : State) (c : Slot) (tripped : Bool) : Keeps s (s.sequencerAnswer c tripped) := withCtx fun w h => by
  dsimp only
  have noted : Keeps s (s.setCtx c (some { w with answered := true })) := setCtx h ⟨rfl, rfl, rfl, rfl, rfl⟩ rfl
  have after : (s.setCtx c (some { w with answered := true })).ctx c = some { w with answered := true } :=
    State.ctx_setCtx_same ..
  split
  · rename_i active
    exact noted.trans (activeAnswer after active _)
  · rename_i exiting
    exact noted.trans (exitAnswer after exiting _)
  · exact noted

theorem washAnswer (s : State) (f : FilterId) (tripped : Bool) : Keeps s (s.washAnswer f tripped) := by
  unfold State.washAnswer
  split
  · exact refl s
  · exact ((releaseHoldings _ _).trans (testOrphan _ _)).trans (sequencerAnswer _ _ _)

theorem markWashed_busy (busy : Busy s c) : Busy (s.markWashed c) c := by
  unfold State.markWashed
  exact busy.modCtx (fun _ => rfl) fun _ => rfl

/-- A RIPEN step reaches its maximum duration. -/
theorem ripenUnmet (h : s.ctx c = some w) (active : w.state = .active) (phase : w.phase ≠ .acquire) :
    Keeps s (s.ripenUnmet c) := by
  unfold State.ripenUnmet
  dsimp only
  have marked : Keeps s (s.modCtx c fun w => { w with ripenResult := .unmet }) :=
    modCtx s c (fun _ => ⟨rfl, rfl, rfl, rfl, rfl⟩) fun _ => rfl
  have busy := (Busy.of_ctx h active phase).modCtx (g := fun w => { w with ripenResult := .unmet }) (fun _ => rfl) fun _ => rfl
  refine marked.trans (withCtx fun v _ => ite (fun _ => ?_) fun _ => endStep busy)
  refine ((subtractStep _ c).trans (markWashed _ c)).trans (withCtx fun x hx => ?_)
  have active := (markWashed_busy busy.subtractStep x hx).1
  rw [decideExitAs_eq]
  exact exitState hx (by rw [active]; decide) (.inl active) none none

end Keeps

end Sys2Proof.Machine

/-! SUPPORT. `Lawful s t`: a change keeps every law of `Sys2Proof.Safety` and leaves the queue of commands. The changes that are not
of the plant-side blocks: the link, the bus, modes and configuration (R143 to R151, R158, R160 to R182). -/

namespace Sys2Proof.Machine

open Sys2Proof.Safety Sys2Proof.Claim

variable {s t u : State} {c : Slot} {w : WashContext} {f : FilterId}

/-- Every law of a state is kept, and the commands that wait stay. -/
structure Lawful (s t : State) : Prop extends Keeps s t where
  pending : t.pending = s.pending
  limits  : LimitLaw s → LimitLaw t
  nodes   : LimitLaw s → NodeLaw s → NodeLaw t
  survey  : SurveyLaw s → SurveyLaw t
  attn    : AttnLaw s → AttnLaw t
  records : RecordLaw s → RecordLaw t
  queue   : QueueLaw s → QueueLaw t

namespace Lawful

theorem refl (s : State) : Lawful s s := ⟨Keeps.refl s, rfl, id, fun _ => id, id, id, id, id⟩

theorem trans (h : Lawful s t) (k : Lawful t u) : Lawful s u :=
  ⟨h.toKeeps.trans k.toKeeps, k.pending.trans h.pending, k.limits ∘ h.limits, fun l n => k.nodes (h.limits l) (h.nodes l n),
    k.survey ∘ h.survey, k.attn ∘ h.attn, k.records ∘ h.records, k.queue ∘ h.queue⟩

theorem ite {p : Prop} [Decidable p] (h : p → Lawful s t) (k : ¬ p → Lawful s u) : Lawful s (if p then t else u) := by
  split
  · exact h (by assumption)
  · exact k (by assumption)

theorem foldl {α : Type} {g : State → α → State} (h : ∀ s x, Lawful s (g s x)) (l : List α) (s : State) :
    Lawful s (l.foldl g s) := by
  induction l generalizing s with
  | nil => exact refl s
  | cons x xs ih => exact (h s x).trans (ih (g s x))

/-- What a plant-side operation does. -/
theorem of_plant (p : PlantStep s t) (k : Keeps s t) : Lawful s t where
  toKeeps := k
  pending := p.pending
  limits law := by
    unfold LimitLaw at *
    rwa [p.settings, p.cs]
  nodes _ law := by
    unfold NodeLaw at *
    rwa [p.settings, p.links]
  survey law := by
    unfold SurveyLaw at *
    rwa [p.mc, p.phase]
  attn law running := p.attn (law (by rwa [← p.mc]))
  records := p.records
  queue := p.queue

/-- A change that leaves what the plant-side laws read, the records, the configuration, the mode and the notices. -/
theorem of_calm (calm : Calm s t) (pending : t.pending = s.pending) (power : t.mc.power = s.mc.power) (cs : t.cs = s.cs)
    (settings : t.gbm.settings = s.gbm.settings) (nodes : LimitLaw s → NodeLaw s → NodeLaw t)
    (phase : ∀ n code, t.gbm.phase = .awaiting n code → s.mc.mode = .survey → s.gbm.phase = .awaiting n code ∨ code = .readIo)
    (nu : attnOk s.nu → attnOk t.nu) (wr : t.wr = s.wr) (wq : t.wq = s.wq) : Lawful s t where
  toKeeps := calm.keeps
  pending := pending
  limits law := by
    unfold LimitLaw at *
    rwa [settings, cs]
  nodes := nodes
  survey law m n code p := by
    rw [calm.mode] at m
    exact (phase n code p m).elim (law m n code) id
  attn law running := nu (law (by rwa [← power]))
  records law := by
    unfold RecordLaw at *
    rwa [wr]
  queue law := by
    unfold QueueLaw at *
    rwa [wq]

/-! ### The link -/

theorem setHlu (s : State) (h : HostLink) : Lawful s { s with hlu := h } :=
  of_calm (Calm.of_eq rfl rfl rfl rfl rfl rfl rfl rfl rfl rfl) rfl rfl rfl rfl (fun _ => id) (fun _ _ p _ => .inl p) id rfl rfl

theorem toHunt (s : State) : Lawful s s.toHunt := setHlu _ _

theorem startFrame (s : State) : Lawful s s.startFrame := setHlu _ _

theorem frameTaken (s : State) (k : Byte) (b : List Byte) : Lawful s (s.frameTaken k b) := setHlu _ _

theorem replyOk (s : State) (k : Kind) (b : List Byte) : Lawful s (s.replyOk k b) := setHlu _ _

theorem replyRefused (s : State) (k : Byte) (r : Refuse) : Lawful s (s.replyRefused k r) := setHlu _ _

theorem takeRestart (s : State) : Lawful s s.takeRestart := setHlu _ _

/-! ### The bus -/

/-- A change of the gallery bus and of the watches of the notices that leaves the links and the settings. -/
theorem setBus (s : State) {g : BusMaster} {n : NoticeUnit} (settings : g.settings = s.gbm.settings)
    (links : g.links = s.gbm.links)
    (phase : ∀ n code, g.phase = .awaiting n code → s.mc.mode = .survey → s.gbm.phase = .awaiting n code ∨ code = .readIo)
    (accounts : n.accounts = s.nu.accounts) (driven : n.attnDriven = s.nu.attnDriven) (gap : n.attnGap = s.nu.attnGap) :
    Lawful s { s with gbm := g, nu := n } := by
  refine of_calm (Calm.of_eq rfl rfl rfl rfl rfl rfl rfl rfl rfl accounts) rfl rfl rfl settings (fun _ law => ?_) phase (fun h => ?_)
    rfl rfl
  · unfold NodeLaw at *
    show ∀ i : Fin 23, linkOk g.settings.missLimit g.links[i.val]
    rwa [settings, links]
  · unfold attnOk NoticeUnit.anyPending at *
    show n.attnDriven = _
    rw [driven, gap, accounts]
    exact h

theorem setPhase {p : ScanPhase} (h : ∀ n code, p = .awaiting n code → s.mc.mode = .survey → code = .readIo) :
    Lawful s (s.setPhase p) :=
  setBus s rfl rfl (fun n code e m => .inr (h n code e m)) rfl rfl rfl

theorem startScan (s : State) : Lawful s s.startScan := setBus s rfl rfl (fun _ _ => nofun) rfl rfl rfl

theorem countScan (s : State) : Lawful s s.countScan := setBus s rfl rfl (fun _ _ => nofun) rfl rfl rfl

theorem expirePeriod (s : State) : Lawful s s.expirePeriod := by
  unfold State.expirePeriod
  split
  · exact startScan s
  · exact setBus s rfl rfl (fun _ _ p _ => .inl p) rfl rfl rfl

theorem setFnode (s : State) (f : FilterId) (n : FilterNode) : Lawful s (s.setFnode f n) :=
  of_plant (PlantStep.setFnode _ _ _) (Calm.setFnode _ _ _).keeps

theorem markSent (s : State) (n : NodeId) (code : PollCode) : Lawful s (s.markSent n code) := by
  refine ite (fun _ => ?_) fun _ => refl s
  cases n
  · exact setFnode _ _ _
  · exact setBus s rfl rfl (fun _ _ p _ => .inl p) rfl rfl rfl
  · exact setBus s rfl rfl (fun _ _ p _ => .inl p) rfl rfl rfl
  · exact refl s

theorem dropSent (s : State) (n : NodeId) : Lawful s (s.dropSent n) := by
  cases n
  · exact setFnode _ _ _
  · exact setBus s rfl rfl (fun _ _ p _ => .inl p) rfl rfl rfl
  · exact setBus s rfl rfl (fun _ _ p _ => .inl p) rfl rfl rfl
  · exact refl s

/-- A link that obeys R149 replaces another. -/
theorem setLink (s : State) (n : NodeId) {l : NodeLink}
    (h : LimitLaw s → linkOk s.gbm.settings.missLimit (s.link n) → linkOk s.gbm.settings.missLimit l) : Lawful s (s.setLink n l) := by
  refine of_calm (Calm.of_eq rfl rfl rfl rfl rfl rfl rfl rfl rfl rfl) rfl rfl rfl rfl (fun limit law i => ?_)
    (fun _ _ p _ => .inl p) id rfl rfl
  show linkOk s.gbm.settings.missLimit (s.gbm.links.set n.index.val l)[i.val]
  rw [Vector.getElem_set]
  split
  · exact h limit (law n.index)
  · exact law i

/-- In SURVEY every poll is a READ_IO (R158). -/
theorem pollCode_survey (m : s.mc.mode = .survey) (n : NodeId) : s.pollCode n = .readIo := by
  cases n <;> simp [State.pollCode, State.filterCode, State.writePermitted, State.clearPermitted, m]

theorem sendPoll (s : State) (n : NodeId) : Lawful s (s.sendPoll n) := by
  unfold State.sendPoll
  refine ((setLink s n (l := { s.link n with lastCode := some (s.pollCode n) }) fun _ h => h).trans (markSent _ n _)).trans
    (setPhase fun _ _ e m => ?_)
  cases e
  refine pollCode_survey (s := s) ?_ n
  rw [← m]
  unfold State.markSent
  split
  · cases n <;> rfl
  · rfl

theorem pollDue (s : State) : Lawful s s.pollDue := by
  unfold State.pollDue
  split
  · exact sendPoll s _
  · exact refl s

theorem raise (s : State) (k : NoticeKind) (n : Nat) : Lawful s (s.raise k n) :=
  of_plant (PlantStep.raise _ _ _) (Calm.raise _ _ _).keeps

theorem hearNode (s : State) (n : NodeId) (st : Byte) : Lawful s (s.hearNode n st) := by
  have heard : Lawful s (s.setLink n { s.link n with
      lost := false, misses := 0, status := some (namedStatus st), lastAnswer := some s.now }) :=
    setLink s n fun limit _ => ⟨Nat.zero_le _, iff_of_false (by simp) (Nat.ne_of_lt limit.1)⟩
  exact ite (fun _ => heard.trans (raise _ _ _)) fun _ => heard

/-- One more miss keeps R149. -/
theorem linkOk_miss {l : NodeLink} {limit : Nat} (h : linkOk limit l) : linkOk limit (l.miss limit) := by
  obtain ⟨le, lost⟩ := h
  unfold NodeLink.miss
  refine ⟨?_, ?_⟩
  · dsimp only
    split <;> omega
  · dsimp only
    rw [Bool.or_eq_true, lost, decide_eq_true_eq]
    split <;> omega

theorem lostEvent (s : State) (n : NodeId) : Lawful s (s.lostEvent n) :=
  of_plant (PlantStep.lostEvent _ _) (Keeps.lostEvent _ _)

theorem countMiss (s : State) (n : NodeId) : Lawful s (s.countMiss n) := by
  have counted : Lawful s (s.setLink n ((s.link n).miss s.gbm.settings.missLimit)) := setLink s n fun _ h => linkOk_miss h
  have missed : ∀ t : State, Lawful t { t with gbm := { t.gbm with scanMissed := true } } := fun t =>
    setBus t rfl rfl (fun _ _ p _ => .inl p) rfl rfl rfl
  have noted := (counted.trans (dropSent _ n)).trans (missed _)
  exact ite (fun _ => (noted.trans (lostEvent _ n)).trans (raise _ _ _)) fun _ => noted

/-- Links that obey R149 replace the node table. -/
theorem setLinks (s : State) {g : BusMaster} (settings : g.settings = s.gbm.settings) (phase : g.phase = s.gbm.phase)
    (nodes : ∀ i : Fin 23, linkOk s.gbm.settings.missLimit s.gbm.links[i.val] → linkOk s.gbm.settings.missLimit g.links[i.val]) :
    Lawful s { s with gbm := g } := by
  refine of_calm (Calm.of_eq rfl rfl rfl rfl rfl rfl rfl rfl rfl rfl) rfl rfl rfl settings (fun _ law i => ?_)
    (fun _ _ p _ => .inl (phase ▸ p)) id rfl rfl
  show linkOk g.settings.missLimit g.links[i.val]
  rw [settings]
  exact nodes i (law i)

theorem clearCounters (s : State) : Lawful s s.clearCounters := by
  refine setLinks s rfl rfl fun i h => ?_
  rw [mapEach_getElem]
  exact h

end Lawful

end Sys2Proof.Machine

/-! SUPPORT. Time, the survey, modes, configuration and resets keep the laws (R22, R178 to R186). -/

namespace Sys2Proof.Machine

open Sys2Proof.Safety Sys2Proof.Claim

variable {s t : State} {c : Slot} {f : FilterId}

/-! ### Time -/

theorem runOn_state (r : FilterRecord) : r.runOn.state = r.state ∧ r.runOn.pending = r.pending := by
  unfold FilterRecord.runOn
  split <;> exact ⟨rfl, rfl⟩

/-- The filter records change, and no state or movement among them. -/
theorem Lawful.setRecords (s : State) {v : Vector FilterRecord 20}
    (same : ∀ f : FilterId, (v[f.val]).state = (s.filter f).state ∧ (v[f.val]).pending = (s.filter f).pending) :
    Lawful s { s with ft := { records := v } } :=
  of_calm ⟨fun f => (same f).1, fun f => (same f).2, rfl, rfl, rfl, rfl, rfl, rfl, rfl,
    fun law => entryLaw_of law (fun _ m => m) fun f => (same f).1, id⟩ rfl rfl rfl rfl (fun _ => id) (fun _ _ p _ => .inl p) id rfl rfl

theorem Lawful.advanceRunSeconds (s : State) : Lawful s s.advanceRunSeconds :=
  setRecords s fun f => by
    rw [mapEach_getElem]
    exact runOn_state _

theorem Lawful.tick (s : State) : Lawful s s.tick := by
  have advanced : Lawful s { s with mc := { s.mc with seconds := s.mc.seconds + 1 } } :=
    of_calm (Calm.of_eq rfl rfl rfl rfl rfl rfl rfl rfl rfl rfl) rfl rfl rfl rfl (fun _ => id) (fun _ _ p _ => .inl p) id rfl rfl
  exact advanced.trans (advanceRunSeconds _)

/-! ### Notices -/

theorem clearSet_count (u : NoticeUnit) (set : BitVec 12) (k : Fin 12) (h : (u.accounts[k.val]).count ≤ 255) :
    ((u.clearSet set).accounts[k.val]).count ≤ 255 := by
  unfold NoticeUnit.clearSet
  rw [Vector.getElem_ofFn]
  split
  · exact Nat.zero_le _
  · exact h

/-- Notices take values of their own that keep R171 and R174. -/
theorem Lawful.setNotices (s : State) {u : NoticeUnit} (counts : CountLaw s → CountLaw { s with nu := u })
    (nu : attnOk s.nu → attnOk u) : Lawful s { s with nu := u } :=
  of_calm (Calm.notices counts) rfl rfl rfl rfl (fun _ => id) (fun _ _ p _ => .inl p) nu rfl rfl

theorem Lawful.endGap (s : State) : Lawful s s.endGap := setNotices s id fun _ => rfl

theorem Lawful.finishReply (s : State) : Lawful s s.finishReply :=
  (setHlu s { s.hlu with receiver := .hunt, rxBuffer := [], txBuffer := [], restartPending := false }).trans
    (setNotices _ (u := NoticeUnit.updateAttn { s.nu with attnGap := false }) id fun _ => PlantStep.attnOk_update _)

theorem Lawful.acknowledge (s : State) (set : BitVec 12) : Lawful s (s.acknowledge set) :=
  setNotices s (fun law k => clearSet_count s.nu set k (law k)) fun _ => rfl

/-! ### The survey -/

theorem PlantStep.surveyFilter (s : State) (f : FilterId) : PlantStep s (s.surveyFilter f) := by
  unfold State.surveyFilter
  refine ite ?_ (refl s)
  split
  · exact surveyOfOne _ _ _ _
  · exact refl s

theorem Keeps.surveyFilter (m : s.mc.mode = .survey) (f : FilterId) : Keeps s (s.surveyFilter f) := by
  unfold State.surveyFilter
  refine ite (fun _ => ?_) fun _ => refl s
  split
  · refine surveyOfOne _ _ fun law c o => ?_
    rw [law.modes (.inl m) c]
    exact nofun
  · exact refl s

theorem Lawful.surveyFilters (l : List FilterId) (m : s.mc.mode = .survey) : Lawful s (l.foldl State.surveyFilter s) := by
  induction l generalizing s with
  | nil => exact refl s
  | cons f fs ih =>
    have step := PlantStep.surveyFilter s f
    exact (of_plant step (Keeps.surveyFilter m f)).trans (ih (by rw [step.mc, m]))

theorem Lawful.askImages (s : State) : Lawful s s.askImages := by
  have asked : ∀ (t : State) (g : BusMaster), g.settings = t.gbm.settings → g.links = t.gbm.links → g.phase = t.gbm.phase →
      Lawful t { t with gbm := g } := fun t g settings links phase =>
    setBus t settings links (fun _ _ p _ => .inl (phase ▸ p)) rfl rfl rfl
  unfold State.askImages
  dsimp only
  have first := ite (p := (s.feedback .pumps .a || s.feedback .pumps .b) = true)
    (fun _ => asked s { s.gbm with washNode := { s.gbm.washNode with owed := true } } rfl rfl rfl) fun _ => refl s
  exact ite (fun _ => first.trans (asked _ _ rfl rfl rfl)) fun _ => first

/-- The mode changes: SURVEY is not entered so, and SETUP only while every context is FREE (R178). -/
theorem Lawful.setMode {m : PartMode} (survey : m ≠ .survey) (setup : m = .setup → s.busySlots = 0) :
    Lawful s (s.setMode m) where
  counts := id
  commitments := id
  entries := id
  washes law := by
    refine ⟨law.wash, law.once, law.orphans, law.quiet, fun k c => ?_⟩
    rcases k with k | k
    · exact absurd k survey
    · have := setup k
      unfold State.busySlots at this
      rw [List.length_eq_zero_iff, List.filter_eq_nil_iff] at this
      rw [State.role_eq_none_iff]
      simpa using this c (List.mem_finRange c)
  slots law := ⟨law.1, fun k => setup k⟩
  shed := id
  headers := id
  pending := rfl
  limits := id
  nodes _ := id
  survey _ k := absurd k survey
  attn := id
  records := id
  queue := id

theorem Lawful.endSurvey (m : s.mc.mode = .survey) : Lawful s s.endSurvey := by
  have floor : ∀ t : State, Lawful t t.evalFloorNow := fun t =>
    of_plant (PlantStep.evalFloorNow t) (Calm.evalFloorNow t).keeps
  have swept := surveyFilters allFilters m
  exact ((swept.trans (askImages _)).trans (floor _)).trans (setMode nofun nofun)

theorem Lawful.countSurvey (s : State) : Lawful s s.countSurvey := by
  have counted : Lawful s { s with mc := { s.mc with surveyProgress := s.mc.surveyProgress + 1 } } :=
    of_calm (Calm.of_eq rfl rfl rfl rfl rfl rfl rfl rfl rfl rfl) rfl rfl rfl rfl (fun _ => id) (fun _ _ p _ => .inl p) id rfl rfl
  exact ite (fun m => ite (fun _ => counted.trans (endSurvey m)) fun _ => counted) fun _ => refl s

theorem Lawful.completeScan (s : State) : Lawful s s.completeScan := by
  unfold State.completeScan
  have admitted : ∀ t : State, Lawful t t.admissionUnit := fun t => of_plant (PlantStep.admissionUnit t) (Keeps.admissionUnit t)
  have watched : ∀ t : State, Lawful t t.watchVolumes := fun t => of_plant (PlantStep.watchVolumes t) (Calm.watchVolumes t).keeps
  have scanned := (((countScan s).trans (admitted _)).trans (watched _)).trans (countSurvey _)
  exact ite (fun _ => scanned.trans (startScan _)) fun _ => scanned

theorem Lawful.endTransaction (s : State) (n : NodeId) : Lawful s (s.endTransaction n) := by
  unfold State.endTransaction
  split
  · exact setPhase fun _ _ => nofun
  · exact completeScan s

/-! ### Configuration -/

theorem Lawful.setWorking {w : WorkingConfig} (plant : w.plant = s.cs.working.plant) : Lawful s (s.setWorking w) where
  toKeeps := (Calm.of_eq rfl rfl rfl rfl rfl rfl rfl (congrArg PlantConfig.maxOut plant) rfl rfl : Calm s (s.setWorking w)).keeps
  pending := rfl
  limits law := by
    obtain ⟨inUse, working, store, writing⟩ := law
    refine ⟨inUse, ?_, store, writing⟩
    show limitOk w
    unfold limitOk at *
    rwa [plant]
  nodes _ := id
  survey := id
  attn := id
  records := id
  queue := id

/-- In SETUP any working configuration with a miss limit is taken. -/
theorem Lawful.setWorking_setup {w : WorkingConfig} (m : s.mc.mode = .setup) (limit : LimitLaw s → limitOk w) :
    Lawful s (s.setWorking w) where
  counts := id
  commitments := id
  entries := id
  washes law := law.congr (fun _ => rfl) (fun _ => rfl) (fun _ => rfl) rfl
  slots law := ⟨Nat.le_trans (Nat.le_zero.2 (law.2 m)) (Nat.zero_le _), law.2⟩
  shed := id
  headers := id
  pending := rfl
  limits law := ⟨law.1, limit law, law.2.2⟩
  nodes _ := id
  survey := id
  attn := id
  records := id
  queue := id

theorem Lawful.replaceWorking {w : WorkingConfig} (m : s.mc.mode = .setup) (limit : LimitLaw s → limitOk w) :
    Lawful s (s.replaceWorking w) := by
  have set := setWorking_setup m limit
  exact ite (fun _ => set) fun _ => set.trans (of_plant (PlantStep.recomputeRequired _) (Calm.recomputeRequired _).keeps)

theorem plantBody_missLimit {b : List Byte} {p : PlantConfig} (h : plantBody? b = some p) : 0 < p.missLimit := by
  unfold plantBody? at h
  split at h
  · rename_i k
    simp only [Bool.and_eq_true, inRange, decide_eq_true_eq] at k
    cases h
    show 0 < u8 b 19
    omega
  · exact nomatch h

theorem limitOk_defaults : limitOk WorkingConfig.defaults := Nat.succ_pos 3

theorem limitOk_store (law : LimitLaw s) : limitOk (s.cs.store.getD WorkingConfig.defaults) := by
  obtain ⟨-, -, store, -⟩ := law
  cases h : s.cs.store with
  | none => exact limitOk_defaults
  | some w => exact store w (by rw [h]; rfl)

/-- The store and the image on its way to it change. -/
theorem Lawful.setStore {store writing : Option WorkingConfig}
    (h : LimitLaw s → (∀ w ∈ store, limitOk w) ∧ ∀ w ∈ writing, limitOk w) :
    Lawful s { s with cs := { s.cs with store := store, writing := writing } } where
  toKeeps := (Calm.of_eq rfl rfl rfl rfl rfl rfl rfl rfl rfl rfl :
    Calm s { s with cs := { s.cs with store := store, writing := writing } }).keeps
  pending := rfl
  limits law := ⟨law.1, law.2.1, h law⟩
  nodes _ := id
  survey := id
  attn := id
  records := id
  queue := id

theorem Lawful.startCommit (s : State) : Lawful s s.startCommit :=
  setStore fun law => ⟨law.2.2.1, fun w h => by
    cases h
    exact law.2.1⟩

theorem Lawful.storeWritten {image : WorkingConfig} (h : s.cs.writing = some image) :
    Lawful s { s with cs := { s.cs with store := some image, writing := none } } :=
  setStore fun law => ⟨fun w k => law.2.2.2 w (by rw [h]; exact k), nofun⟩

/-! ### Leaving SETUP -/

theorem recount_state (r : FilterRecord) (b : Bool) : (r.recount b).state ≠ .wash := by
  unfold FilterRecord.recount
  split
  · split <;> exact nofun
  · exact nofun

/-- Other gallery settings are taken, with links that have no miss. -/
theorem Lawful.renewBus (s : State) {g : BusMaster} (settings : g.settings = s.plant.busSettings) (phase : g.phase = s.gbm.phase)
    (links : ∀ i : Fin 23, (g.links[i.val]).misses = 0 ∧ (g.links[i.val]).lost = false) : Lawful s { s with gbm := g } where
  toKeeps := (Calm.of_eq rfl rfl rfl rfl rfl rfl rfl rfl rfl rfl : Calm s { s with gbm := g }).keeps
  pending := rfl
  limits law := ⟨by
    show 0 < g.settings.missLimit
    rw [settings]
    exact law.2.1, law.2⟩
  nodes limit _ i := by
    show linkOk g.settings.missLimit g.links[i.val]
    obtain ⟨misses, lost⟩ := links i
    rw [settings]
    exact ⟨by rw [misses]; exact Nat.zero_le _, iff_of_false (by simp [lost]) (by rw [misses]; exact Nat.ne_of_lt limit.2.1)⟩
  survey law m n code k := law m n code (phase ▸ k)
  attn := id
  records := id
  queue := id

theorem Lawful.takeSettings (s : State) : Lawful s s.takeSettings :=
  renewBus s rfl rfl fun i => by
    rw [mapEach_getElem]
    exact ⟨rfl, rfl⟩

/-- In SETUP the filters take states other than WASH, and the queue is emptied. -/
theorem Lawful.renewFilters (m : s.mc.mode = .setup) {v : Vector FilterRecord 20} {x : TriggerUnit} {n : BitVec 16}
    (dry : ∀ f : FilterId, (v[f.val]).state ≠ .wash) :
    Lawful s { s with ft := { records := v }, te := x, wq := { entries := [], changeNumber := n } } where
  counts := id
  commitments := id
  entries _ e k := nomatch k
  washes law := by
    have bare : ∀ c x, s.role c ≠ some x := fun c x => by
      rw [law.modes (.inr m)]
      exact nofun
    exact ⟨fun f => iff_of_false (dry f) fun ⟨c, hc⟩ => bare c _ hc, fun c d f o p h => absurd h (bare c _),
      fun c f h => absurd h (bare c _), fun c f o h => absurd h (bare c _), law.modes⟩
  slots := id
  shed := id
  headers := id
  pending := rfl
  limits := id
  nodes _ := id
  survey := id
  attn := id
  records := id
  queue _ := List.Pairwise.nil

theorem applyFilterCount_filter (s : State) (f : FilterId) :
    s.applyFilterCount.filter f = (s.filter f).recount (decide (f.val < s.filterCount)) := Vector.getElem_ofFn ..

theorem Lawful.applyFilterCount (m : s.mc.mode = .setup) : Lawful s s.applyFilterCount :=
  renewFilters m (v := s.applyFilterCount.ft.records) fun f => by
    show (s.applyFilterCount.filter f).state ≠ .wash
    rw [applyFilterCount_filter]
    exact recount_state _ _

/-- A scan starts in SURVEY, which is entered from SETUP. -/
theorem Lawful.beginSurvey (m : s.mc.mode = .setup) : Lawful s s.beginSurvey where
  counts := id
  commitments := id
  entries := id
  washes law := ⟨law.wash, law.once, law.orphans, law.quiet, fun _ => law.modes (.inr m)⟩
  slots law := ⟨law.1, nofun⟩
  shed := id
  headers := id
  pending := rfl
  limits := id
  nodes _ := id
  survey _ _ _ _ := nofun
  attn := id
  records := id
  queue := id

theorem Lawful.leaveSetup (m : s.mc.mode = .setup) : Lawful s s.leaveSetup := by
  have settled := takeSettings s
  have counted : Lawful s.takeSettings s.takeSettings.applyFilterCount := applyFilterCount m
  exact (settled.trans counted).trans (beginSurvey m)

end Sys2Proof.Machine

/-! SUPPORT. Power, resets, answers and requests keep the laws, and so does every command (R145, R153, R163, R181 to R186). -/

namespace Sys2Proof.Machine

open Sys2Proof.Safety Sys2Proof.Claim

variable {s t : State} {c : Slot} {f : FilterId}

/-! ### Power and reset -/

theorem Lawful.halt {p : Power} (stopped : p ≠ .running) : Lawful s (s.halt p) where
  toKeeps := (Calm.of_eq rfl rfl rfl rfl rfl rfl rfl rfl rfl rfl : Calm s (s.halt p)).keeps
  pending := rfl
  limits law := ⟨law.1, law.2.1, fun w h => by
    unfold State.halt at h
    dsimp only at h
    split at h
    · exact nomatch h
    · exact law.2.2.1 w h, nofun⟩
  nodes _ := id
  survey _ _ _ _ := nofun
  attn _ running := absurd running stopped
  records := id
  queue := id

theorem resetBlocks_filter (s : State) (k : Kept) (f : FilterId) :
    (s.resetBlocks k).filter f =
      FilterRecord.reset (if f.val < (s.resetBlocks k).plant.filterCount then .unknown else .unused) := Vector.getElem_ofFn ..

theorem resetBlocks_ctx (s : State) (k : Kept) (c : Slot) : (s.resetBlocks k).ctx c = none := Vector.getElem_replicate ..

theorem resetBlocks_link (s : State) (k : Kept) (i : Fin 23) : (s.resetBlocks k).gbm.links[i.val] = NodeLink.reset :=
  Vector.getElem_replicate ..

theorem busySlots_eq_zero (free : ∀ c, s.ctx c = none) : s.busySlots = 0 := by
  unfold State.busySlots
  rw [List.length_eq_zero_iff, List.filter_eq_nil_iff]
  intro c _
  rw [free c]
  exact nofun

theorem Lawful.resetBlocks (s : State) (k : Kept) (held : RecordLaw s → k.records.records.length ≤ 32) :
    Lawful s (s.resetBlocks k) where
  counts _ i := by
    have : (s.resetBlocks k).nu.accounts[i.val] = NoticeAccount.reset := Vector.getElem_replicate ..
    rw [this]
    exact Nat.zero_le _
  commitments _ := by
    unfold CommitmentLaw sumSlots
    simp only [resetBlocks_ctx]
    exact ⟨rfl, rfl⟩
  entries _ e h := nomatch h
  washes _ := by
    have bare : ∀ c x, (s.resetBlocks k).role c ≠ some x := fun c x => by
      rw [(State.role_eq_none_iff ..).2 (resetBlocks_ctx s k c)]
      exact nofun
    refine ⟨fun f => iff_of_false ?_ fun ⟨c, hc⟩ => bare c _ hc, fun c d f o p h => absurd h (bare c _),
      fun c f h => absurd h (bare c _), fun c f o h => absurd h (bare c _),
      fun _ c => (State.role_eq_none_iff ..).2 (resetBlocks_ctx s k c)⟩
    rw [resetBlocks_filter]
    split <;> exact nofun
  slots _ := by
    have none := busySlots_eq_zero (resetBlocks_ctx s k)
    unfold SlotLaw
    rw [none]
    exact ⟨Nat.zero_le _, fun _ => rfl⟩
  shed _ := ⟨List.nodup_nil, nofun⟩
  headers _ h := by
    have bare : (s.resetBlocks k).header h = ⟨[], []⟩ := by cases h <;> rfl
    unfold State.holds
    rw [bare]
    exact ⟨Nat.zero_le _, List.nodup_nil, List.nodup_nil, nofun, nofun⟩
  pending := rfl
  limits law := ⟨limitOk_store law, limitOk_store law, law.2.2.1, nofun⟩
  nodes limit _ i := by
    rw [resetBlocks_link]
    exact ⟨Nat.zero_le _, iff_of_false nofun (Nat.ne_of_lt (limitOk_store limit))⟩
  survey _ _ _ _ := nofun
  attn _ _ := (rfl : attnOk NoticeUnit.reset)
  records := held
  queue _ := List.Pairwise.nil

theorem Lawful.resetWith (s : State) (k : Kept) (held : RecordLaw s → k.records.records.length ≤ 32) :
    Lawful s (s.resetWith k) :=
  ite (fun _ => resetBlocks s k held) fun _ => (resetBlocks s k held).trans (raise _ _ _)

theorem Lawful.coldReset (s : State) (b : Bool) : Lawful s (s.coldReset b) := resetWith s _ fun _ => Nat.zero_le _

theorem Lawful.recordWash (s : State) (w : WashContext) (o : WashOutcome) (a b : Option FaultCause) (x : Option Snapshot) :
    Lawful s (s.recordWash w o a b x) := of_plant (PlantStep.recordWash ..) (Calm.recordWash ..).keeps

theorem Lawful.withCtx {g : WashContext → State} (h : ∀ w, s.ctx c = some w → Lawful s (g w)) : Lawful s (s.withCtx c g) := by
  unfold State.withCtx
  split
  · exact h _ (by assumption)
  · exact refl s

theorem Lawful.recordInterrupted (s : State) (c : Slot) : Lawful s (s.recordInterrupted c) := withCtx fun w _ => by
  split
  · exact recordWash ..
  · exact recordWash ..
  · exact refl s

theorem Lawful.warmReset (s : State) : Lawful s s.warmReset := by
  have recorded : Lawful s (allSlots.foldl State.recordInterrupted s) := foldl recordInterrupted _ _
  exact recorded.trans (resetWith _ _ id)

/-! ### Answers -/

namespace Lawful

theorem localSwitch (s : State) (f : FilterId) : Lawful s (s.localSwitch f) :=
  of_plant (PlantStep.localSwitch _ _) (Keeps.localSwitch _ _)

theorem evalTriggers (s : State) (f : FilterId) (b : Bool) : Lawful s (s.evalTriggers f b) :=
  of_plant (PlantStep.evalTriggers _ _ _) (Calm.evalTriggers _ _ _).keeps

theorem inputAnswer (s : State) (f : FilterId) (st : Byte) (i : FilterInput) (written : Bool) :
    Lawful s (s.inputAnswer f st i written) := by
  unfold State.inputAnswer
  dsimp only
  have stored : Lawful s ((s.hearNode (.filter f) st).storeInput f i) :=
    (hearNode _ _ _).trans (of_plant (PlantStep.storeInput _ _ _) (Calm.storeInput _ _ _).keeps)
  generalize (s.hearNode (.filter f) st).storeInput f i = t at stored ⊢
  have settled : Lawful s (if written = true then t.setFnode f (t.fnode f).settle else t) :=
    ite (fun _ => stored.trans (setFnode _ _ _)) fun _ => stored
  refine settled.trans ?_
  generalize (if written = true then t.setFnode f (t.fnode f).settle else t) = u
  exact ((of_plant (PlantStep.filterTable u f i _ _) (Keeps.filterTable u f i _ _)).trans (evalTriggers _ _ _)).trans
    (of_plant (PlantStep.washAnswer _ _ _) (Keeps.washAnswer _ _ _))

theorem totalizerAnswer (s : State) (f : FilterId) (st : Byte) (v : BitVec 32) (cleared : Bool) :
    Lawful s (s.totalizerAnswer f st v cleared) := by
  unfold State.totalizerAnswer
  dsimp only
  refine (hearNode s (.filter f) st).trans ?_
  generalize s.hearNode (.filter f) st = t
  refine (setFnode t f { t.fnode f with totalizer := some v }).trans ?_
  generalize t.setFnode f { t.fnode f with totalizer := some v } = u
  have switched : Lawful u (if statusLocal st = true then u.localSwitch f else u) := ite (fun _ => localSwitch _ _) fun _ => refl u
  refine switched.trans ?_
  generalize (if statusLocal st = true then u.localSwitch f else u) = v'
  have due : Lawful v' (v'.modFilter f fun r => { r with classifyDue := true }) :=
    of_plant (PlantStep.modFilter _ _ _) (Calm.modFilter _ _ ⟨rfl, rfl⟩).keeps
  have taken : ∀ x : State, Lawful x ((x.takeTotal f v cleared).evalTriggers f false) := fun x =>
    (of_plant (PlantStep.takeTotal _ _ _ _) (Calm.takeTotal _ _ _ _).keeps).trans (evalTriggers _ _ _)
  refine trans ?_ (taken _)
  exact ite (fun _ => due) fun _ => refl v'

theorem testOrphans (s : State) : Lawful s s.testOrphans := of_plant (PlantStep.testOrphans s) (Keeps.testOrphans s)

theorem pumpAnswer (s : State) (st : Byte) (i : PumpInput) (written : Bool) : Lawful s (s.pumpAnswer st i written) := by
  unfold State.pumpAnswer
  dsimp only
  refine (hearNode s .washWater st).trans ?_
  generalize s.hearNode .washWater st = t
  refine trans ?_ (testOrphans _)
  refine trans ?_ (foldl (fun u c => of_plant (PlantStep.pumpAnswerFor u c) (Keeps.pumpAnswerFor u c)) _ _)
  exact setBus t rfl rfl (fun _ _ p _ => .inl p) rfl rfl rfl

theorem blowerAnswer (s : State) (st : Byte) (i : BlowerInput) (written : Bool) : Lawful s (s.blowerAnswer st i written) := by
  unfold State.blowerAnswer
  dsimp only
  refine (hearNode s .airNode st).trans ?_
  generalize s.hearNode .airNode st = t
  refine trans ?_ (testOrphans _)
  refine trans ?_ (foldl (fun u c => of_plant (PlantStep.superviseSupply u c .blowers) (Keeps.superviseSupply u c .blowers)) _ _)
  exact setBus t rfl rfl (fun _ _ p _ => .inl p) rfl rfl rfl

theorem wasteAnswer (s : State) (st : Byte) (i : WasteInput) : Lawful s (s.wasteAnswer st i) :=
  (hearNode s .waste st).trans (setBus _ rfl rfl (fun _ _ p _ => .inl p) rfl rfl rfl)

theorem handAnswer (s : State) (n : NodeId) (code : PollCode) (a : Answer) : Lawful s (s.handAnswer n code a) := by
  cases n
  · exact ite (fun _ => inputAnswer _ _ _ _ _) fun _ => totalizerAnswer _ _ _ _ _
  · exact pumpAnswer _ _ _ _
  · exact blowerAnswer _ _ _ _
  · exact wasteAnswer _ _ _

theorem takeAnswer (s : State) (a : Answer) : Lawful s (s.takeAnswer a) := by
  unfold State.takeAnswer
  split
  · exact (ite (fun _ => handAnswer _ _ _ _) fun _ => countMiss _ _).trans (endTransaction _ _)
  · exact refl s

theorem missAnswer (s : State) : Lawful s s.missAnswer := by
  unfold State.missAnswer
  split
  · exact (countMiss _ _).trans (endTransaction _ _)
  · exact refl s

/-! ### Timers -/

theorem whenRunning {g : State → State} (h : Lawful s (g s)) : Lawful s (s.whenRunning g) := ite (fun _ => h) fun _ => refl s

theorem decideExit (s : State) (c : Slot) (x : Option FaultCause) (v : Option Valve) : Lawful s (s.decideExit c x v) :=
  of_plant (PlantStep.decideExit ..) (Keeps.decideExit ..)

/-- The Admission Unit takes values of its own, and the shed list stays. -/
theorem setAdmission (s : State) {a : AdmissionUnit} (shed : a.shed = s.au.shed) : Lawful s { s with au := a } :=
  of_calm (Calm.of_eq rfl rfl rfl rfl rfl shed rfl rfl rfl rfl) rfl rfl rfl rfl (fun _ => id) (fun _ _ p _ => .inl p) id rfl rfl

theorem recomputeRequired (s : State) : Lawful s s.recomputeRequired :=
  of_plant (PlantStep.recomputeRequired s) (Calm.recomputeRequired s).keeps

theorem goStale (s : State) : Lawful s s.goStale :=
  ((setAdmission s (a := { s.au with fresh := false }) rfl).trans (recomputeRequired _)).trans (raise _ _ _)

theorem movementExpires (s : State) (f : FilterId) : Lawful s (s.movementExpires f) := by
  unfold State.movementExpires
  split
  · rename_i m h
    refine ite (fun _ => of_plant (PlantStep.failMovement s f m) (Keeps.failMovement m ?_)) fun _ => refl s
    rw [h]
    exact Option.some_ne_none m
  · exact refl s

theorem whenPhaseExpired {p : Phase} {limit : Nat} {g : WashContext → State} (h : ∀ w, s.ctx c = some w → Lawful s (g w)) :
    Lawful s (s.whenPhaseExpired c p limit g) := withCtx fun w hw => ite (fun _ => h w hw) fun _ => refl s

theorem startTimerExpires (s : State) (c : Slot) (p : SupplyPair) : Lawful s (s.startTimerExpires c p) := withCtx fun w _ => by
  split
  · exact ite (fun _ => of_plant (PlantStep.startExpired ..) (Keeps.startExpired ..)) fun _ => refl s
  · exact refl s

theorem rampTimerExpires (s : State) (c : Slot) : Lawful s (s.rampTimerExpires c) := withCtx fun w _ => by
  split
  · exact ite (fun _ => of_plant (PlantStep.rampExpired ..) (Keeps.rampExpired ..)) fun _ => refl s
  · exact refl s

theorem active_of_durationReached {w : WashContext} {q : Bool} (k : (s.durationReached w && q) = true) :
    w.state = .active ∧ w.phase ≠ .acquire := by
  simp only [State.durationReached, WashContext.activeIn, Bool.and_eq_true, decide_eq_true_eq] at k
  obtain ⟨⟨⟨active, timing⟩, -⟩, -⟩ := k
  exact ⟨active, by rw [timing]; exact nofun⟩

theorem exitTimerExpires (s : State) (c : Slot) : Lawful s (s.exitTimerExpires c) := withCtx fun w h => by
  split
  · refine ite (fun k => of_plant (PlantStep.failExit ..) (Keeps.failExit h ?_)) fun _ => refl s
    rw [Bool.and_eq_true, decide_eq_true_eq] at k
    rw [k.1]
    exact nofun
  · exact refl s

end Lawful

end Sys2Proof.Machine

/-! The laws of `Sys2Proof.Safety` are kept by every command. -/

namespace Sys2Proof.Machine

open Sys2Proof.Safety Sys2Proof.Claim

variable {s t : State} {c : Slot} {f : FilterId}

/-! ### Requests -/

/-- A decision whose effect keeps the laws. -/
def Decided (s : State) (d : Decision) : Prop := ∀ t body, d = .ok (t, body) → Lawful s t

namespace Lawful

theorem accept (h : Lawful s t) (body : List Byte) : Decided s (accept t body) := by
  rintro _ _ ⟨⟩
  exact h

theorem refused (r : Refuse) : Decided s (.error r) := fun _ _ h => by cases h

theorem refuse (r : Reason) : Decided s (refuse r) := refused _

theorem decided_ite {p : Prop} [Decidable p] {d e : Decision} (h : p → Decided s d) (k : ¬ p → Decided s e) :
    Decided s (if p then d else e) := by
  split
  · exact h (by assumption)
  · exact k (by assumption)

theorem withFilter {body : List Byte} {g : FilterId → Decision} (h : ∀ f, Decided s (g f)) :
    Decided s (withFilter body g) := by
  unfold Machine.withFilter
  split
  · exact h _
  · exact refuse _

theorem withSlot {body : List Byte} {g : Slot → Decision} (h : ∀ c, Decided s (g c)) :
    Decided s (withSlot body g) := by
  unfold Machine.withSlot
  split
  · exact h _
  · exact refuse _

theorem judge {k : Kind} {body : List Byte} {own : State → Decision} (h : k.accepted s.mc.mode = true → Decided s (own s)) :
    Decided s (judge s k body own) := by
  unfold Machine.judge
  refine decided_ite (fun _ => refuse _) fun _ => decided_ite (fun _ => refuse _) fun mode => h ?_
  simpa using mode

/-- The receipt of a frame whose owning block keeps the laws. -/
theorem receive (s : State) {k : Kind} {body : List Byte} {own : State → Decision}
    (h : ∀ t : State, k.accepted t.mc.mode = true → Decided t (own t)) : Lawful s (s.receive k body own) := by
  unfold State.receive
  refine ite (fun _ => ite (fun _ => toHunt s) fun _ => ?_) fun _ => refl s
  dsimp only
  refine (frameTaken s (BitVec.ofNat 8 k.code) body).trans ?_
  generalize s.frameTaken (BitVec.ofNat 8 k.code) body = t
  unfold State.answer
  split
  · rename_i d u b e
    exact (judge (h t) u b e).trans (replyOk _ _ _)
  · exact replyRefused _ _ _

/-! ### The owning blocks -/

theorem recordOf (s : State) (i : Nat) : Decided s (s.readRecord i) := by
  unfold State.readRecord
  refine decided_ite (fun _ => refuse _) fun _ => ?_
  split
  · exact accept (refl s) _
  · exact refuse _

theorem readConfig (s : State) (i : Nat) : Decided s (s.readConfig i) := by
  unfold State.readConfig
  refine decided_ite (fun _ => accept (refl s) _) fun _ => ?_
  split
  · exact accept (refl s) _
  · exact refuse _

theorem takeFlow (s : State) (v : Nat) : Lawful s (s.takeFlow v) :=
  (setAdmission s (a := { s.au with reportedFlow := v, arrival := some s.now, fresh := true }) rfl).trans (recomputeRequired _)

theorem drawMargins (s : State) : Lawful s s.drawMargins :=
  ite (fun _ => of_plant (PlantStep.setFree _ _) (Calm.setFree _ _).keeps) fun _ => refl s

theorem request (s : State) (f : FilterId) (x : WashCause) : Lawful s (s.request f x) :=
  of_plant (PlantStep.request _ _ _) (Calm.request _ _ _).keeps

theorem removeEntry (s : State) (f : FilterId) : Lawful s (s.removeEntry f) :=
  of_plant (PlantStep.removeEntry _ _) (Calm.removeEntry _ _).keeps

theorem startWith (mode : s.mc.mode = .hold) (q : s.queueable f = true) (n : Nat) (l : List ProfileStep) :
    Decided s (s.startWith f n l) := by
  unfold State.startWith
  refine decided_ite (fun _ => refuse _) fun room => decided_ite (fun _ => refuse _) fun _ => decided_ite (fun _ => refuse _)
    fun _ => decided_ite (fun _ => refuse _) fun _ => ?_
  split
  · rename_i c free
    refine accept (of_plant (PlantStep.admitFilter ..) (Keeps.admitFilter q (freeSlot?_free free) (room_of_slotGate ?_) ?_ _ _)) _
    · simpa using room
    · rw [mode]
      decide
  · exact refuse _

theorem startFilter (mode : s.mc.mode = .hold) (f : FilterId) : Decided s (s.startFilter f) := by
  unfold State.startFilter
  refine decided_ite (fun _ => refuse _) fun startable => ?_
  simp only [State.startable, Bool.not_eq_true', Bool.not_eq_false, Bool.and_eq_true] at startable
  obtain ⟨⟨⟨q, -⟩, -⟩, -⟩ := startable
  split
  · exact refused _
  · split
    · exact refused _
    · exact startWith mode q _ _

theorem activeWash_ctx {w : WashContext} (h : s.activeWash f = some (c, w)) : s.ctx c = some w ∧ w.state = .active := by
  unfold State.activeWash at h
  split at h
  · split at h
    · split at h
      · cases h
        exact ⟨by assumption, by assumption⟩
      · exact nomatch h
    · exact nomatch h
  · exact nomatch h

/-- A movement on request, for a filter that no context names. -/
theorem startMovement (b : Bool) (dry : (s.filter f).state ≠ .wash) (free : WashLaws s → Unnamed s f) :
    Lawful s (s.startMovement f b) := of_plant (PlantStep.startMovement _ _ _) (Keeps.startMovement b dry free)

theorem unnamed_of_releasable (h : s.releasable f = true) :
    (s.filter f).state ≠ .wash ∧ (WashLaws s → Unnamed s f) := by
  unfold State.releasable at h
  rw [Bool.and_eq_true] at h
  obtain ⟨-, h⟩ := h
  split at h
  · rename_i held
    exact ⟨by rw [held]; decide, fun law => law.unnamed_of_queueable (by simp [State.queueable, held])⟩
  · rename_i service
    exact ⟨by rw [service]; decide, fun law => law.unnamed_of_queueable (by simp [State.queueable, service])⟩
  · rename_i unknown
    have dry : (s.filter f).state ≠ .wash := by rw [unknown]; decide
    exact ⟨dry, fun law => law.unnamed_of_no_orphan dry (by simpa using h)⟩
  · exact nomatch h

theorem unnamed_of_isolatable (h : s.isolatable f = true) :
    (s.filter f).state ≠ .wash ∧ (WashLaws s → Unnamed s f) := by
  unfold State.isolatable at h
  split at h
  · rename_i service
    exact ⟨by rw [service]; decide, fun law => law.unnamed_of_queueable (by simp [State.queueable, service])⟩
  · rename_i held
    exact ⟨by rw [held]; decide, fun law => law.unnamed_of_queueable (by simp [State.queueable, held])⟩
  · rename_i unknown
    have dry : (s.filter f).state ≠ .wash := by rw [unknown]; decide
    exact ⟨dry, fun law => law.unnamed_of_no_orphan dry (by simpa using h)⟩
  · rename_i fault
    have dry : (s.filter f).state ≠ .wash := by rw [fault]; decide
    exact ⟨dry, fun law => law.unnamed_of_no_orphan dry (by simpa using h)⟩
  · exact nomatch h

/-- A context is rewritten without a change of its filter, and is ORPHAN as before. -/
theorem role_setCtx {d : Slot} {w v : WashContext} (h : s.ctx d = some w) (filter : v.filter = w.filter)
    (orphan : v.state = .orphan ↔ w.state = .orphan) (c : Slot) : (s.setCtx d (some v)).role c = s.role c := by
  by_cases e : c = d
  · subst e
    rw [State.role_of_ctx h, State.role_of_ctx (State.ctx_setCtx_same ..), filter, decide_eq_decide.2 orphan]
  · unfold State.role
    rw [State.setCtx_ctx_other s e]

theorem role_decideExit (s : State) (d : Slot) (x : Option FaultCause) (v : Option Valve) (c : Slot) :
    (s.decideExit d x v).role c = s.role c := by
  unfold State.decideExit State.withCtx
  split
  · rename_i w h
    dsimp only
    split
    · rename_i active
      rw [decideExitAs_eq]
      by_cases e : c = d
      · subst e
        rw [State.role_of_ctx h, State.role_of_ctx (exitState_ctx_same ..), active]
        rfl
      · unfold State.role
        rw [exitState_ctx_ne s e]
    · rfl
  · rfl

theorem role_tryHeaders (s : State) (d : Slot) (l : List Header) (c : Slot) : (s.tryHeaders d l).role c = s.role c := by
  induction l generalizing s with
  | nil =>
    unfold State.tryHeaders State.enterSetting State.withCtx
    split
    · rename_i w h
      rw [(Calm.writePattern _ _ _).role]
      exact role_setCtx (v := { w with
        phase := .setting, phaseStart := s.now, answered := false, progress := progressAtSetting w.progress w.kind? }) h rfl Iff.rfl c
    · rfl
  | cons h hs ih =>
    unfold State.tryHeaders
    split
    · exact ih s
    · split
      · exact role_decideExit ..
      · split
        · exact ih _
        · rfl

theorem role_grantOnward (s : State) (h : Header) (n : Nat) (c : Slot) : (s.grantOnward h n).role c = s.role c := by
  induction n generalizing s with
  | zero => rfl
  | succ n ih =>
    unfold State.grantOnward
    split
    · split
      · rfl
      · rw [ih]
        unfold State.acquire State.withCtx
        split
        · exact role_tryHeaders ..
        · rfl
    · rfl

theorem role_freeHeader (s : State) (d : Slot) (h : Header) (c : Slot) : (s.freeHeader d h).role c = s.role c := by
  unfold State.freeHeader
  split
  · exact role_grantOnward ..
  · rfl

theorem freeHeader (s : State) (c : Slot) (h : Header) : Lawful s (s.freeHeader c h) :=
  ite (fun _ => of_plant ((PlantStep.dropHolding _ _ _).trans (PlantStep.grantFreed _ _))
    ((Keeps.dropHolding _ _ _).trans (Keeps.grantFreed _ _))) fun _ => refl s

/-- FREE of an ORPHAN context: its headers are released, and then it is freed. -/
theorem freeForced {w : WashContext} (h : s.ctx c = some w) (orphan : w.state = .orphan) : Lawful s (s.freeForced c) := by
  have freed := ((freeHeader s c .air).trans (freeHeader _ c .wash)).trans (freeHeader _ c .ftw)
  have role : (((s.freeHeader c .air).freeHeader c .wash).freeHeader c .ftw).role c = some (w.filter, true) := by
    rw [role_freeHeader, role_freeHeader, role_freeHeader, State.role_of_ctx h, orphan]
    rfl
  obtain ⟨v, hv, e⟩ := Option.map_eq_some_iff.1 role
  exact freed.trans (of_plant (PlantStep.freeOrphan _ _) (Keeps.freeOrphan hv (by simpa using congrArg Prod.snd e)))

theorem modFilter (s : State) (f : FilterId) {g : FilterRecord → FilterRecord}
    (h : (g (s.filter f)).state = (s.filter f).state ∧ (g (s.filter f)).pending = (s.filter f).pending) :
    Lawful s (s.modFilter f g) := of_plant (PlantStep.modFilter _ _ _) (Calm.modFilter _ _ h).keeps

theorem clearTarget (s : State) (a b : Nat) : Decided s (s.clearTarget a b) := by
  have trip : ∀ f, Decided s (s.clearTripOf f) := fun f => by
    unfold State.clearTripOf
    split
    · exact refuse _
    · exact decided_ite (fun _ => refuse _) fun _ => accept (modFilter s f ⟨rfl, rfl⟩) _
  have drift : ∀ f, Decided s (s.clearDriftOf f) := fun f =>
    decided_ite (fun _ => accept (modFilter s f ⟨rfl, rfl⟩) _) fun _ => refuse _
  have held : ∀ f, Decided s (s.clearHeldOf f) := fun f =>
    decided_ite (fun _ => accept (modFilter s f ⟨rfl, rfl⟩) _) fun _ => refuse _
  unfold State.clearTarget
  split
  · refine decided_ite (fun _ => ?_) fun _ => refuse _
    exact decided_ite (fun _ => accept (of_plant (PlantStep.setUnitFault _ _ _ _) (Calm.setUnitFault _ _ _ _).keeps) _)
      fun _ => refuse _
  · split
    · exact trip _
    · exact drift _
    · exact held _
    · exact refuse _

theorem changeMode (s : State) (m : PartMode) : Decided s (s.changeMode m) := by
  have auto : Lawful s (s.setMode .auto) := setMode nofun nofun
  have hold : Lawful s (s.setMode .hold) := setMode nofun nofun
  have setup : s.busySlots = 0 → Lawful s (s.setMode .setup) := fun none => setMode nofun fun _ => none
  unfold State.changeMode
  split
  · exact accept auto _
  · exact accept hold _
  · exact accept (refl s) _
  · exact accept (refl s) _
  · exact decided_ite (fun none => accept (setup none) _) fun _ => refuse _
  · exact refuse _
  · exact refuse _
  · exact refuse _
  · rename_i mode
    split
    · exact refused _
    · exact accept (leaveSetup mode) _
  · exact refuse _
  · exact refuse _

theorem setEnables (s : State) (x : BitVec 12) : Lawful s (s.setWorking { s.cs.working with enables := x }) := setWorking rfl

theorem setProfile (s : State) (n : Fin 8) (l : List ProfileStep) : Lawful s (s.setProfile n l) := setWorking rfl

theorem setFilterConfig (s : State) (f : FilterId) (x : FilterConfig) : Lawful s (s.setFilterConfig f x) := setWorking rfl

theorem setup_of_accepted {k : Kind} (own : ∀ m, k.accepted m = decide (m = .setup)) (h : k.accepted s.mc.mode = true) :
    s.mc.mode = .setup := by
  rw [own] at h
  simpa using h

theorem commit (s : State) (body : List Byte) :
    Lawful s (if s.hears then
      if 240 < body.length then s.toHunt
      else (s.frameTaken (BitVec.ofNat 8 Kind.commit.code) body).answerCommit
        (Machine.judge (s.frameTaken (BitVec.ofNat 8 Kind.commit.code) body) .commit body State.commitStore)
    else s) := by
  refine ite (fun _ => ite (fun _ => toHunt s) fun _ => ?_) fun _ => refl s
  refine (frameTaken s (BitVec.ofNat 8 Kind.commit.code) body).trans ?_
  generalize s.frameTaken (BitVec.ofNat 8 Kind.commit.code) body = t
  unfold State.answerCommit
  split
  · rename_i d u b e
    refine judge (fun _ => ?_) u b e
    unfold State.commitStore
    split
    · exact refused _
    · exact accept (startCommit t) _
  · exact replyRefused _ _ _

end Lawful

/-! ### Every command -/

/-- Every command goes on, keeps the laws and leaves the queue of commands. -/
theorem exec_lawful (i : Instr) (s : State) : ∃ t, exec i s = .next t ∧ Lawful s t := by
  cases i with
  | powerOn h => exact ⟨_, rfl, (Lawful.halt (p := .off) nofun).trans (Lawful.coldReset _ h)⟩
  | rstnTaken => exact ⟨_, rfl, Lawful.whenRunning (Lawful.halt nofun)⟩
  | pinReset h => exact ⟨_, rfl, Lawful.ite (fun _ => Lawful.refl s) fun _ => (Lawful.halt (p := .held) nofun).trans (Lawful.coldReset _ h)⟩
  | powerLoss => exact ⟨_, rfl, Lawful.halt nofun⟩
  | plantSecond => exact ⟨_, rfl, Lawful.whenRunning (Lawful.tick s)⟩
  | flowReportTimeout => exact ⟨_, rfl, Lawful.whenRunning (Lawful.ite (fun _ => Lawful.goStale s) fun _ => Lawful.refl s)⟩
  | movementTravelLimit f => exact ⟨_, rfl, Lawful.whenRunning (Lawful.movementExpires s f)⟩
  | headerWaitLimit c => exact ⟨_, rfl, Lawful.whenRunning (Lawful.whenPhaseExpired fun _ _ => Lawful.decideExit s c _ _)⟩
  | settingTravelLimit c => exact ⟨_, rfl, Lawful.whenRunning (Lawful.whenPhaseExpired fun _ _ => Lawful.decideExit s c _ _)⟩
  | startConfirmExpiry c p => exact ⟨_, rfl, Lawful.whenRunning (Lawful.startTimerExpires s c p)⟩
  | rampWindowExpiry c => exact ⟨_, rfl, Lawful.whenRunning (Lawful.rampTimerExpires s c)⟩
  | stepDurationExpiry c =>
    refine ⟨_, rfl, Lawful.whenRunning (Lawful.withCtx fun w h => Lawful.ite (fun k => ?_) fun _ => Lawful.refl s)⟩
    obtain ⟨active, phase⟩ := Lawful.active_of_durationReached k
    exact Lawful.of_plant (PlantStep.endStep _ _) (Keeps.endStep (Busy.of_ctx h active phase))
  | ripenMaximumDuration c =>
    refine ⟨_, rfl, Lawful.whenRunning (Lawful.withCtx fun w h => Lawful.ite (fun k => ?_) fun _ => Lawful.refl s)⟩
    obtain ⟨active, phase⟩ := Lawful.active_of_durationReached k
    exact Lawful.of_plant (PlantStep.ripenUnmet _ _) (Keeps.ripenUnmet h active phase)
  | holdPointLimit c => exact ⟨_, rfl, Lawful.whenRunning (Lawful.whenPhaseExpired fun _ _ => Lawful.decideExit s c _ _)⟩
  | exitTravelExpiry c => exact ⟨_, rfl, Lawful.whenRunning (Lawful.exitTimerExpires s c)⟩
  | scanPeriodExpiry => exact ⟨_, rfl, Lawful.whenRunning (Lawful.expirePeriod s)⟩
  | poll => exact ⟨_, rfl, Lawful.whenRunning (Lawful.pollDue s)⟩
  | filterInputAnswer a => exact ⟨_, rfl, Lawful.whenRunning (Lawful.takeAnswer s a)⟩
  | filterTotalizerAnswer a => exact ⟨_, rfl, Lawful.whenRunning (Lawful.takeAnswer s a)⟩
  | supplyNodeAnswer a => exact ⟨_, rfl, Lawful.whenRunning (Lawful.takeAnswer s a)⟩
  | missingAnswer => exact ⟨_, rfl, Lawful.whenRunning (Lawful.missAnswer s)⟩
  | attnRetriggerGapEnd => exact ⟨_, rfl, Lawful.whenRunning (Lawful.ite (fun _ => Lawful.endGap s) fun _ => Lawful.refl s)⟩
  | syncByteInHunt => exact ⟨_, rfl, Lawful.whenRunning (Lawful.ite (fun _ => Lawful.startFrame s) fun _ => Lawful.refl s)⟩
  | frameGap b =>
    exact ⟨_, rfl, Lawful.whenRunning (Lawful.ite
      (fun _ => Lawful.ite (fun _ => Lawful.startFrame s) fun _ => Lawful.toHunt s) fun _ => Lawful.refl s)⟩
  | frameLengthOver240 n =>
    exact ⟨_, rfl, Lawful.whenRunning (Lawful.ite (fun _ => Lawful.toHunt s) fun _ => Lawful.refl s)⟩
  | frameCrcError k b x => exact ⟨_, rfl, Lawful.ite (fun _ => Lawful.toHunt s) fun _ => Lawful.refl s⟩
  | frameInBusy => exact ⟨_, rfl, Lawful.refl s⟩
  | unknownKind k b =>
    exact ⟨_, rfl, Lawful.ite (fun _ => Lawful.ite (fun _ => Lawful.toHunt s)
      fun _ => (Lawful.frameTaken s k b).trans (Lawful.replyRefused _ _ _)) fun _ => Lawful.refl s⟩
  | replySent =>
    exact ⟨_, rfl, Lawful.whenRunning (Lawful.ite (fun _ => Lawful.ite
      (fun _ => (Lawful.finishReply s).trans (Lawful.warmReset _)) fun _ => Lawful.finishReply s) fun _ => Lawful.refl s)⟩
  | storeWriteComplete =>
    refine ⟨_, rfl, Lawful.whenRunning ?_⟩
    split
    · rename_i image writing
      exact (Lawful.storeWritten writing).trans (Lawful.replyOk _ _ _)
    · exact Lawful.refl s
  | ident b => exact ⟨_, rfl, Lawful.receive s fun t _ => Lawful.accept (Lawful.refl t) _⟩
  | status b => exact ⟨_, rfl, Lawful.receive s fun t _ => Lawful.accept (Lawful.refl t) _⟩
  | flow b =>
    exact ⟨_, rfl, Lawful.receive s fun t _ => Lawful.decided_ite (fun _ => Lawful.refuse _)
      fun _ => Lawful.accept (Lawful.takeFlow t _) _⟩
  | filterRead b => exact ⟨_, rfl, Lawful.receive s fun t _ => Lawful.withFilter fun _ => Lawful.accept (Lawful.refl t) _⟩
  | patternRead b => exact ⟨_, rfl, Lawful.receive s fun t _ => Lawful.withFilter fun _ => Lawful.accept (Lawful.refl t) _⟩
  | queueRead b => exact ⟨_, rfl, Lawful.receive s fun t _ => Lawful.accept (Lawful.refl t) _⟩
  | contextRead b => exact ⟨_, rfl, Lawful.receive s fun t _ => Lawful.withSlot fun _ => Lawful.accept (Lawful.refl t) _⟩
  | resourceRead b => exact ⟨_, rfl, Lawful.receive s fun t _ => Lawful.accept (Lawful.drawMargins t) _⟩
  | nodeRead b =>
    refine ⟨_, rfl, Lawful.receive s fun t _ => ?_⟩
    split
    · exact Lawful.accept (Lawful.refl t) _
    · exact Lawful.refuse _
  | nodeClear b => exact ⟨_, rfl, Lawful.receive s fun t _ => Lawful.accept (Lawful.clearCounters t) _⟩
  | recordRead b => exact ⟨_, rfl, Lawful.receive s fun t _ => Lawful.recordOf t _⟩
  | noticeRead b => exact ⟨_, rfl, Lawful.receive s fun t _ => Lawful.accept (Lawful.refl t) _⟩
  | noticeAck b => exact ⟨_, rfl, Lawful.receive s fun t _ => Lawful.accept (Lawful.acknowledge t _) _⟩
  | noticeEnable b => exact ⟨_, rfl, Lawful.receive s fun t _ => Lawful.accept (Lawful.setEnables t _) _⟩
  | mode b =>
    refine ⟨_, rfl, Lawful.receive s fun t _ => ?_⟩
    split
    · exact Lawful.changeMode t _
    · exact Lawful.refuse _
  | wash b =>
    exact ⟨_, rfl, Lawful.receive s fun t _ => Lawful.withFilter fun _ => Lawful.decided_ite
      (fun _ => Lawful.accept (Lawful.request t _ _) _) fun _ => Lawful.refuse _⟩
  | cancel b =>
    refine ⟨_, rfl, Lawful.receive s fun t _ => Lawful.withFilter fun _ => ?_⟩
    split
    · exact Lawful.accept (Lawful.removeEntry t _) _
    · exact Lawful.refuse _
  | start b =>
    exact ⟨_, rfl, Lawful.receive s fun t h => Lawful.withFilter fun f => Lawful.startFilter (by simpa [Kind.accepted] using h) f⟩
  | continueWash b =>
    refine ⟨_, rfl, Lawful.receive s fun t _ => Lawful.withFilter fun f => ?_⟩
    split
    · rename_i c w h
      obtain ⟨ctx, active⟩ := Lawful.activeWash_ctx h
      refine Lawful.decided_ite (fun phase => ?_) fun _ => Lawful.refuse _
      exact Lawful.accept (Lawful.of_plant (PlantStep.beginStep _ _ _)
        (Keeps.beginStep ctx active (by rw [phase]; exact nofun) _)) _
    · exact Lawful.refuse _
  | release b =>
    refine ⟨_, rfl, Lawful.receive s fun t _ => Lawful.withFilter fun f => Lawful.decided_ite (fun h => ?_) fun _ => Lawful.refuse _⟩
    obtain ⟨dry, free⟩ := Lawful.unnamed_of_releasable h
    exact Lawful.accept (Lawful.startMovement true dry free) _
  | isolate b =>
    refine ⟨_, rfl, Lawful.receive s fun t _ => Lawful.withFilter fun f => Lawful.decided_ite (fun h => ?_) fun _ => Lawful.refuse _⟩
    obtain ⟨dry, free⟩ := Lawful.unnamed_of_isolatable h
    exact Lawful.accept (Lawful.startMovement false dry free) _
  | free b =>
    refine ⟨_, rfl, Lawful.receive s fun t _ => Lawful.withSlot fun c => ?_⟩
    split
    · exact Lawful.decided_ite (fun orphan => Lawful.accept (Lawful.freeForced (by assumption) orphan) _) fun _ => Lawful.refuse _
    · exact Lawful.refuse _
  | clearTrip b => exact ⟨_, rfl, Lawful.receive s fun t _ => Lawful.clearTarget t _ _⟩
  | clearDrift b => exact ⟨_, rfl, Lawful.receive s fun t _ => Lawful.clearTarget t _ _⟩
  | clearHeldCondition b => exact ⟨_, rfl, Lawful.receive s fun t _ => Lawful.clearTarget t _ _⟩
  | clearUnit b => exact ⟨_, rfl, Lawful.receive s fun t _ => Lawful.clearTarget t _ _⟩
  | tune b =>
    refine ⟨_, rfl, Lawful.receive s fun t _ => Lawful.withFilter fun f => Lawful.decided_ite (fun _ => Lawful.refuse _) fun _ => ?_⟩
    split
    · exact Lawful.accept (Lawful.setFilterConfig t f _) _
    · exact Lawful.refuse _
  | exit b =>
    refine ⟨_, rfl, Lawful.receive s fun t _ => Lawful.withFilter fun f => ?_⟩
    split
    · exact Lawful.accept (Lawful.decideExit t _ _ _) _
    · exact Lawful.refuse _
  | profileWrite b =>
    refine ⟨_, rfl, Lawful.receive s fun t _ => ?_⟩
    split
    · exact Lawful.accept (Lawful.setProfile t _ _) _
    · exact Lawful.refuse _
  | profileRead b =>
    refine ⟨_, rfl, Lawful.receive s fun t _ => ?_⟩
    split
    · exact Lawful.accept (Lawful.refl t) _
    · exact Lawful.refuse _
  | filterConfig b =>
    refine ⟨_, rfl, Lawful.receive s fun t _ => Lawful.withFilter fun f => ?_⟩
    split
    · exact Lawful.accept (Lawful.setFilterConfig t f _) _
    · exact Lawful.refuse _
  | plantConfig b =>
    refine ⟨_, rfl, Lawful.receive s fun t h => ?_⟩
    split
    · rename_i p e
      exact Lawful.accept (Lawful.replaceWorking (Lawful.setup_of_accepted (fun _ => rfl) h) fun _ => plantBody_missLimit e) _
    · exact Lawful.refuse _
  | configRead b => exact ⟨_, rfl, Lawful.receive s fun t _ => Lawful.readConfig t _⟩
  | commit b => exact ⟨_, rfl, Lawful.commit s b⟩
  | discard b =>
    exact ⟨_, rfl, Lawful.receive s fun t h => Lawful.accept
      (Lawful.replaceWorking (Lawful.setup_of_accepted (fun _ => rfl) h) limitOk_store) _⟩
  | restart b => exact ⟨_, rfl, Lawful.receive s fun t _ => Lawful.accept (Lawful.takeRestart t) _⟩

theorem exec_lawful_of_next {i : Instr} (h : exec i s = .next t) : Lawful s t := by
  obtain ⟨u, e, law⟩ := exec_lawful i s
  rw [h] at e
  cases e
  exact law

/-- A step runs the command at the front of the queue, or idles. -/
theorem step_lawful (h : step s = .next t) : ∃ rest, Lawful { s with pending := rest } t := by
  unfold step at h
  split at h
  · cases h
    exact ⟨s.pending, Lawful.refl s⟩
  · rename_i rest _
    exact ⟨rest, exec_lawful_of_next h⟩

end Sys2Proof.Machine

/-! The obligations on the laws: every command goes on, and every step keeps each law. -/

namespace Sys2Proof.Claim

open Sys2Proof.Machine Sys2Proof.Safety

/-- A command of the bus that has not come due. -/
theorem exec_poll_idle {s : State} (idle : ∀ n, s.gbm.phase ≠ .due n) : exec .poll s = .next s := by
  have same : s.pollDue = s := by
    unfold State.pollDue
    split
    · exact absurd (by assumption) (idle _)
    · rfl
  refine congrArg Host.Outcome.next ?_
  unfold State.whenRunning
  rw [same, ite_self]

/-- Settles O2: every command keeps the commands that wait, as one of the changes of `Lawful`. -/
theorem everyCommandGoesOn : Obligations.EveryCommandGoesOn := by
  refine ⟨fun i s => ?_, fun s => exec_poll_idle⟩
  obtain ⟨t, next, lawful⟩ := exec_lawful i s
  exact ⟨t, next, lawful.pending⟩

/-- Settles O54, from `step_lawful`. -/
theorem nodesStayLawful : Obligations.NodesStayLawful := by
  refine ⟨fun s t nodes limits next => ?_, fun s t law next => ?_⟩
  · obtain ⟨_, lawful⟩ := step_lawful next
    exact ⟨lawful.nodes limits nodes, lawful.limits limits⟩
  · obtain ⟨_, lawful⟩ := step_lawful next
    exact lawful.survey law

/-- Settles O55, from `step_lawful`. -/
theorem noticesAndRecordsStayLawful : Obligations.NoticesAndRecordsStayLawful := by
  intro s t attn counts records next
  obtain ⟨_, lawful⟩ := step_lawful next
  exact ⟨lawful.attn attn, lawful.counts counts, lawful.records records⟩

/-- Settles O56, from `step_lawful`. -/
theorem queueStaysOrdered : Obligations.QueueStaysOrdered := by
  intro s t queue entries next
  obtain ⟨_, lawful⟩ := step_lawful next
  exact ⟨lawful.queue queue, lawful.entries entries⟩

/-- Settles O57, from `step_lawful`. -/
theorem commitmentsStayBalanced : Obligations.CommitmentsStayBalanced := by
  intro s t law next
  obtain ⟨_, lawful⟩ := step_lawful next
  exact lawful.commitments law

/-- Settles O58, from `step_lawful`. -/
theorem headersStayLawful : Obligations.HeadersStayLawful := by
  intro s t law next
  obtain ⟨_, lawful⟩ := step_lawful next
  exact lawful.headers law

/-- Settles O59, from `step_lawful` and the laws in terms of roles. -/
theorem washesStayLawful : Obligations.WashesStayLawful := by
  intro s t wash orphan quiet next
  obtain ⟨_, lawful⟩ := step_lawful next
  exact (washLaws_iff t).1 (lawful.washes ((washLaws_iff _).2 ⟨wash, orphan, quiet⟩))

/-- Settles O60, from `step_lawful`. -/
theorem slotsStayWithinLimit : Obligations.SlotsStayWithinLimit := by
  intro s t slots shed next
  obtain ⟨_, lawful⟩ := step_lawful next
  exact ⟨lawful.slots slots, lawful.shed shed⟩

end Sys2Proof.Claim

/-! Steps, power and resets (R157, R181, R184, R186). -/

namespace Sys2Proof.Claim

open Sys2Proof.Machine Sys2Proof.Safety

/-! ### Steps -/

/-- Settles O1, from the definition of a step. -/
theorem stepRunsFrontCommand : Obligations.StepRunsFrontCommand := by
  refine ⟨fun c rest s => rfl, fun s empty => ?_⟩
  unfold step
  rw [empty]

/-! ### Requests: what every frame of a known kind goes through (R160 to R165) -/

/-- A whole frame of a known kind is received, and `finish` makes the state after a granted decision. -/
def receiveWith (s : State) (k : Kind) (body : List Byte) (own : State → Decision) (finish : State → List Byte → State) : State :=
  if s.hears then
    if 240 < body.length then s.toHunt
    else
      match judge (taken s k body) k body own with
      | .ok (t, b) => finish t b
      | .error r => (taken s k body).replyRefused (kindByte k) r
  else s

/-- Every request is received so; COMMIT alone answers at another time. -/
theorem exec_request {i : Instr} {k : Kind} {body : List Byte} (h : request i = some (k, body)) :
    ∃ own finish, ∀ s, exec i s = .next (receiveWith s k body own finish) := by
  cases i <;> cases h
  case commit => exact ⟨State.commitStore, fun t _ => t, fun _ => rfl⟩
  all_goals exact ⟨_, fun t b => t.replyOk _ b, fun _ => rfl⟩

theorem receiveWith_deaf {s : State} (deaf : s.hears = false) (k : Kind) (body : List Byte) (own : State → Decision)
    (finish : State → List Byte → State) : receiveWith s k body own finish = s := by
  unfold receiveWith
  rw [deaf]
  rfl

theorem hears_eq_false {s : State} (h : s.mc.power ≠ .running ∨ s.hlu.receiver = .busy) : s.hears = false := by
  rw [Bool.eq_false_iff, Ne, State.hears_iff]
  rintro ⟨power, receiver⟩
  exact h.elim (fun k => k power) receiver

section

variable {s : State} {k : Kind} {body : List Byte} {own : State → Decision} {finish : State → List Byte → State}

theorem receiveWith_long (ready : Ready s) (long : 240 < body.length) : receiveWith s k body own finish = hunting s := by
  unfold receiveWith
  rw [(State.hears_iff s).2 ready, if_pos rfl, if_pos long]
  rfl

/-- A frame that is taken and fails a test of R163 is refused. -/
theorem receiveWith_refused (ready : Ready s) (fits : body.length ≤ 240) {r : Reason}
    (test : judge (taken s k body) k body own = refuse r) : receiveWith s k body own finish = refused s k body r 0 := by
  unfold receiveWith
  rw [(State.hears_iff s).2 ready, if_pos rfl, if_neg (Nat.not_lt.2 fits), test]
  rfl

theorem judge_length (t : State) (wrong : body.length ≠ k.bodyLength body) : judge t k body own = refuse .length := by
  unfold judge
  exact if_pos (by simpa using wrong)

theorem judge_mode (t : State) (length : body.length = k.bodyLength body) (wrong : k.accepted t.mc.mode = false) :
    judge t k body own = refuse .mode := by
  unfold judge
  rw [if_neg (by simpa using length), wrong]
  rfl

end

/-! ### Halted -/

theorem exec_halted {i : Instr} {s : State} (halted : s.mc.power ≠ .running) (on : ∀ h, i ≠ .powerOn h)
    (reset : ∀ h, i ≠ .pinReset h) (off : i ≠ .powerLoss) : exec i s = .next s := by
  cases q : request i with
  | some x =>
    obtain ⟨own, finish, eq⟩ := exec_request q
    rw [eq, receiveWith_deaf (hears_eq_false (.inl halted))]
  | none =>
    have gate : ∀ g : State → State, (.next (s.whenRunning g) : Result) = .next s := fun g =>
      congrArg _ (State.whenRunning_of_halted halted g)
    have deaf := hears_eq_false (.inl halted)
    cases i with
    | powerOn h => exact absurd rfl (on h)
    | pinReset h => exact absurd rfl (reset h)
    | powerLoss => exact absurd rfl off
    | frameInBusy => rfl
    | frameCrcError kind body crc => exact congrArg _ (if_neg (by rw [deaf]; exact nofun))
    | unknownKind kind body => exact congrArg _ (if_neg (by rw [deaf]; exact nofun))
    | _ => first | exact gate _ | exact nomatch q

/-- Settles O3: requests are not heard, and every other command asks for power, but for those of power and pins. -/
theorem haltedPartTakesNothing : Obligations.HaltedPartTakesNothing := by
  refine ⟨fun c s => exec_halted, fun h s off => congrArg _ (if_pos off), fun s => ⟨rfl, fun running => ?_, fun halted => ?_,
    fun running => ?_⟩⟩
  · exact congrArg _ (State.whenRunning_of_running running _)
  · simp [State.gdeActive, halted]
  · unfold State.gdeActive
    rw [show s.mc.power = .running from running]
    cases s.gbm.phase <;> simp

/-! ### Resets -/

theorem noticesAfterFault :
    NoticeUnit.updateAttn { NoticeUnit.reset with accounts := NoticeUnit.reset.accounts.set 3 (NoticeAccount.reset.occur 0) } =
      { accounts := (Vector.replicate 12 ⟨false, 0, 0⟩).set 3 ⟨true, 1, 0⟩
        attnDriven := true, attnGap := false, tankWatch := ⟨none, false⟩, basinWatch := ⟨none, false⟩ } := by decide

/-- The blocks after a reset, as the statement on resets writes them but for the notices. -/
theorem resetBlocks_eq (s : State) (k : Kept) :
    s.resetBlocks k = { afterReset s s.cs.store k.seconds k.fastLink k.records with nu := NoticeUnit.reset } := rfl

theorem resetWith_eq (s : State) (k : Kept) : s.resetWith k = afterReset s s.cs.store k.seconds k.fastLink k.records := by
  unfold State.resetWith
  rw [resetBlocks_eq]
  cases s.cs.store with
  | some w => rfl
  | none =>
    refine (if_neg (by decide)).trans ((if_pos ?enabled).trans ?notices)
    case enabled => exact (by decide : WorkingConfig.defaults.enables.getLsbD NoticeKind.fault.index.val = true)
    case notices =>
      refine (congrArg (fun u => { afterReset s none k.seconds k.fastLink k.records with nu := u }) noticesAfterFault).trans ?_
      rfl

/-- Settles O4: both are a reset on what a halt leaves of the store. -/
theorem resetsGiveEveryBlockItsValues : Obligations.ResetsGiveEveryBlockItsValues := by
  refine fun h s => ⟨?_, fun on => ?_⟩
  · exact congrArg _ (resetWith_eq _ _)
  · exact congrArg _ ((if_neg on).trans (resetWith_eq _ _))

/-! ### The laws at reset -/

theorem reset_ctx (c : Slot) : State.reset.ctx c = none := Vector.getElem_replicate ..

theorem reset_filter (f : FilterId) : State.reset.filter f = FilterRecord.reset .unused := Vector.getElem_replicate ..

theorem reset_header (h : Header) : State.reset.header h = ⟨[], []⟩ := by cases h <;> rfl

theorem nodeLaw_reset : NodeLaw State.reset := fun n => by
  have link : State.reset.gbm.links[n.val] = NodeLink.reset := Vector.getElem_replicate ..
  rw [link]
  exact ⟨by decide, by decide⟩

theorem washLaws_reset : WashLaws State.reset := by
  have bare : ∀ c, State.reset.role c = none := fun c => (State.role_eq_none_iff ..).2 (reset_ctx c)
  have none : ∀ c x, State.reset.role c ≠ some x := fun c x => by
    rw [bare]
    exact nofun
  refine ⟨fun f => iff_of_false ?_ fun ⟨c, hc⟩ => none c _ hc, fun c d f o p h => absurd h (none c _),
    fun c f h => absurd h (none c _), fun c f o h => absurd h (none c _), fun _ => bare⟩
  rw [reset_filter]
  exact nofun

theorem headerTableLaw_reset : HeaderTableLaw State.reset := fun h => by
  unfold State.holds
  rw [reset_header]
  exact ⟨Nat.zero_le _, List.nodup_nil, List.nodup_nil, nofun, nofun⟩

theorem slotLaw_reset : SlotLaw State.reset := by
  unfold SlotLaw
  rw [busySlots_eq_zero reset_ctx]
  exact ⟨Nat.zero_le _, fun _ => rfl⟩

/-- Settles O5: every context is FREE, every list empty and every filter UNUSED. -/
theorem lawsHoldAtReset : Obligations.LawsHoldAtReset := by
  obtain ⟨wash, orphan, quiet⟩ := (washLaws_iff _).1 washLaws_reset
  have limits : LimitLaw State.reset := ⟨Nat.succ_pos 3, limitOk_defaults, nofun, nofun⟩
  have counts : CountLaw State.reset := by
    unfold CountLaw
    decide
  have capacity : CapacityLaw State.reset := fun h => (headerTableLaw_reset h).1
  have commitments : CommitmentLaw State.reset := by
    unfold CommitmentLaw sumSlots
    simp only [reset_ctx]
    exact ⟨rfl, rfl⟩
  have holders : HolderLaw State.reset := fun h => by
    unfold State.holds
    rw [reset_header]
    exact ⟨List.nodup_nil, List.nodup_nil, fun c k => k.elim nofun nofun⟩
  exact ⟨nodeLaw_reset, limits, fun _ => rfl, counts, Nat.zero_le _, capacity, commitments, holders, List.Pairwise.nil, nofun, wash,
    orphan, slotLaw_reset, ⟨List.nodup_nil, nofun⟩, nofun, headerTableLaw_reset, quiet⟩

end Sys2Proof.Claim

/-! The receiver, the order of the tests on a request, and the end of a reply (R160 to R165, R186). -/

namespace Sys2Proof.Claim

open Sys2Proof.Machine Sys2Proof.Safety

variable {s : State}

/-! ### The receiver -/

theorem exec_request_deaf {i : Instr} {k : Kind} {body : List Byte} (h : Claim.request i = some (k, body)) (deaf : s.hears = false) :
    exec i s = .next s := by
  obtain ⟨own, finish, eq⟩ := exec_request h
  rw [eq, receiveWith_deaf deaf]

/-- A command that acts while the part runs, and changes nothing then. -/
theorem whenRunning_idle {g : State → State} (h : g s = s) : s.whenRunning g = s := by
  unfold State.whenRunning
  rw [h, ite_self]

/-- Settles O6: a frame is not heard, and the other commands ask for HUNT or RECEIVING. -/
theorem busyReceiverDiscards : Obligations.BusyReceiverDiscards := by
  intro s busy
  have deaf : s.hears = false := hears_eq_false (.inr busy)
  have quiet : ∀ t : State, (if s.hears = true then t else s) = s := fun t => if_neg (by rw [deaf]; exact nofun)
  refine ⟨fun i k body h => exec_request_deaf h deaf, rfl, ?_, fun b => ?_, fun n => ?_, fun kind body crc => ?_,
    fun kind body => ?_⟩
  · exact congrArg _ (whenRunning_idle (if_neg (by rw [busy]; decide)))
  · exact congrArg _ (whenRunning_idle (if_neg (by rw [busy]; decide)))
  · exact congrArg _ (whenRunning_idle (if_neg (by simp [busy])))
  · exact congrArg _ (if_neg (by simp [deaf]))
  · exact congrArg _ (if_neg (by simp [deaf]))

/-- Settles O7, by the state of the receiver. -/
theorem badFramesAreDiscarded : Obligations.BadFramesAreDiscarded := by
  intro s running
  have run : ∀ g : State → State, s.whenRunning g = g s := State.whenRunning_of_running running
  refine ⟨fun hunt => ⟨?_, fun b => ?_, fun n => ?_⟩, fun receiving => ⟨?_, ?_, fun b other => ?_, fun n long => ?_⟩,
    fun idle kind body crc wrong => ?_⟩
  · exact congrArg _ ((run _).trans (if_pos hunt))
  · exact congrArg _ ((run _).trans (if_neg (by rw [hunt]; decide)))
  · exact congrArg _ ((run _).trans (if_neg (by simp [hunt])))
  · exact congrArg _ ((run _).trans (if_neg (by rw [receiving]; decide)))
  · exact congrArg _ ((run _).trans ((if_pos receiving).trans (if_pos rfl)))
  · exact congrArg _ ((run _).trans ((if_pos receiving).trans (if_neg other)))
  · exact congrArg _ ((run _).trans (if_pos (by simp [receiving, long])))
  · have heard := (State.hears_iff s).2 ⟨running, idle⟩
    exact congrArg _ (if_pos (by simp [heard, wrong]))

/-! ### The tests on a request -/

theorem kindTable_all (k : Kind) : ∃ row ∈ kindTable, row.1 = k := by cases k <;> decide

theorem kindTable_codes : ∀ row ∈ kindTable, row.1.code = row.2.1 := by decide

theorem kindTable_modes : ∀ row ∈ kindTable, ∀ m, row.1.accepted m = true ↔ m ∈ row.2.2.2 := by
  have all : ∀ row ∈ kindTable, row.1.accepted .survey = decide (PartMode.survey ∈ row.2.2.2) ∧
      row.1.accepted .setup = decide (PartMode.setup ∈ row.2.2.2) ∧ row.1.accepted .hold = decide (PartMode.hold ∈ row.2.2.2) ∧
      row.1.accepted .auto = decide (PartMode.auto ∈ row.2.2.2) := by decide
  intro row h m
  obtain ⟨survey, setup, hold, auto⟩ := all row h
  cases m
  · rw [survey, decide_eq_true_eq]
  · rw [setup, decide_eq_true_eq]
  · rw [hold, decide_eq_true_eq]
  · rw [auto, decide_eq_true_eq]

theorem kindTable_lengths (body : List Byte) :
    ∀ row ∈ kindTable, row.1.bodyLength body = row.2.2.1.getD (2 + 10 * u8 body 1) := by
  simp [kindTable, Kind.bodyLength]

/-- Settles O8, from the tables and the way every request is received. -/
theorem requestsAreTestedInOrder : Obligations.RequestsAreTestedInOrder := by
  refine ⟨⟨kindTable_all, fun row h => ⟨kindTable_codes row h, kindTable_modes row h, fun body => kindTable_lengths body row h⟩⟩,
    fun s ready => ⟨fun kind body fits unknown => ?_, fun i k body h => ?_⟩⟩
  · have heard := (State.hears_iff s).2 ready
    have named : unknownKindByte kind = true := by simpa [unknownKindByte] using unknown
    refine congrArg _ ((if_pos ?_).trans (if_neg (Nat.not_lt.2 fits)))
    rw [heard, named]
    rfl
  · obtain ⟨own, finish, eq⟩ := exec_request h
    rw [eq]
    refine ⟨fun long => ?_, fun fits wrong => ?_, fun fits length wrong => ?_⟩
    · rw [receiveWith_long ready long]
    · rw [receiveWith_refused ready fits (judge_length _ wrong)]
    · rw [receiveWith_refused ready fits (judge_mode _ length wrong)]

/-! ### The end of a reply -/

theorem exec_restart (ready : Ready s) : exec (.restart []) s =
    .next (granted (let t := taken s .restart []; { t with hlu := { t.hlu with restartPending := true } }) .restart []) :=
  congrArg _ (State.receive_own ready.1 ready.2 rfl (Nat.zero_le _) (by cases s.mc.mode <;> rfl))

/-- The record of RESTART for the context in a slot, if its wash is interrupted. -/
def interruptedIn (s : State) (c : Slot) : Option (WashContext × Option FaultCause × Option FaultCause) :=
  match s.ctx c with
  | some w =>
    match w.state with
    | .active => some (w, some .resetInterrupted, none)
    | .exiting => some (w, w.cause, some .resetInterrupted)
    | .orphan => none
  | none => none

/-- The record list after the record of one interrupted wash. -/
def withInterrupted (s : State) (l : RecordList) (x : WashContext × Option FaultCause × Option FaultCause) : RecordList :=
  oneRecord l (recordFor x.1 s.now .resetInterrupted x.2.1 x.2.2 none)

theorem recordsKept_eq (s : State) : recordsKept s = (allSlots.filterMap (interruptedIn s)).foldl (withInterrupted s) s.wr := rfl

theorem recordInterrupted_eq (s : State) (c : Slot) :
    s.recordInterrupted c = { s with wr := ((interruptedIn s c).toList).foldl (withInterrupted s) s.wr } := by
  unfold State.recordInterrupted State.withCtx interruptedIn
  cases s.ctx c with
  | none => rfl
  | some w =>
    dsimp only
    cases w.state <;> rfl

/-- The records of RESTART are written in slot order, and change nothing else. -/
theorem foldl_recordInterrupted (l : List Slot) (s : State) :
    l.foldl State.recordInterrupted s = { s with wr := (l.filterMap (interruptedIn s)).foldl (withInterrupted s) s.wr } := by
  induction l generalizing s with
  | nil => rfl
  | cons c cs ih =>
    rw [List.foldl_cons, ih, recordInterrupted_eq]
    have same : interruptedIn { s with wr := ((interruptedIn s c).toList).foldl (withInterrupted s) s.wr } = interruptedIn s := rfl
    rw [same, List.filterMap_cons]
    cases interruptedIn s c <;> rfl

theorem warmReset_eq (s : State) : s.warmReset = afterReset s s.cs.store s.now s.hlu.fastLink (recordsKept s) := by
  unfold State.warmReset
  rw [foldl_recordInterrupted, ← recordsKept_eq]
  exact resetWith_eq _ _

/-- Settles O9: the reply's end resets the link and ends the gap, and the records of RESTART come before its reset. -/
theorem replySentAndRestart : Obligations.ReplySentAndRestart := by
  intro s
  refine ⟨exec_restart, fun running busy reply => ?_, fun quiet => congrArg _ (whenRunning_idle (if_neg ?_))⟩
  · have replying : s.replying = true := by simp [State.replying, busy, reply]
    have run := State.whenRunning_of_running running
    refine ⟨fun plain => ?_, fun pending => ?_⟩
    · refine congrArg _ ((run _).trans ((if_pos replying).trans ((if_neg (by rw [plain]; decide)).trans ?_)))
      unfold State.finishReply NoticeUnit.updateAttn
      rw [Bool.not_false, Bool.and_true]
      rfl
    · exact congrArg _ ((run _).trans ((if_pos replying).trans ((if_pos pending).trans (warmReset_eq _))))
  · rcases quiet with idle | empty
    · simp [State.replying, idle]
    · simp [State.replying, empty]

/-! ### COMMIT (R181, R182) -/

/-- An item of a list of items with their results fails. -/
def Fails (l : List (Nat × Bool)) (i : Nat) : Prop := (i, false) ∈ l

/-- In a list whose indices increase, the first failing item is the least. -/
theorem find?_failing {l : List (Nat × Bool)} (increasing : l.Pairwise fun x y => x.1 < y.1) :
    (((l.find? fun x => !x.2).map fun x => x.1) = none ↔ ∀ i, ¬ Fails l i) ∧
      ∀ i, ((l.find? fun x => !x.2).map fun x => x.1) = some i ↔ Fails l i ∧ ∀ j < i, ¬ Fails l j := by
  induction l with
  | nil => exact ⟨iff_of_true rfl nofun, fun i => iff_of_false nofun fun h => nomatch h.1⟩
  | cons x xs ih =>
    obtain ⟨first, rest⟩ := List.pairwise_cons.1 increasing
    obtain ⟨none, some⟩ := ih rest
    obtain ⟨n, ok⟩ := x
    cases ok with
    | true =>
      have same : ∀ i, Fails ((n, true) :: xs) i ↔ Fails xs i := fun i => by simp [Fails]
      simp only [same]
      exact ⟨none, some⟩
    | false =>
      have least : ∀ j < n, ¬ Fails ((n, false) :: xs) j := fun j lt m => by
        rcases List.mem_cons.1 m with e | m
        · cases e
          exact Nat.lt_irrefl _ lt
        · exact Nat.lt_asymm lt (first _ m)
      have here : Fails ((n, false) :: xs) n := List.mem_cons_self
      refine ⟨iff_of_false nofun fun all => all n here, fun i => ⟨fun found => ?_, fun ⟨fails, before⟩ => ?_⟩⟩
      · cases found
        exact ⟨here, least⟩
      · rcases Nat.lt_trichotomy i n with lt | rfl | lt
        · exact absurd fails (least i lt)
        · rfl
        · exact absurd here (before n lt)

theorem filterItems_fails (w : WorkingConfig) (i : Nat) :
    Fails (filterItems w) i ↔
      ∃ f : FilterId, i = 40 + (f.val + 1) ∧ f.val + 1 ≤ w.plant.filterCount ∧ (w.filters[f.val]).settings = none := by
  unfold Fails filterItems
  rw [List.mem_map]
  refine exists_congr fun f => ?_
  rw [List.mem_filter, Prod.mk.injEq, Option.isSome_eq_false_iff, Option.isNone_iff_eq_none, decide_eq_true_eq]
  constructor
  · rintro ⟨⟨-, within⟩, index, unwritten⟩
    exact ⟨index.symm, within, unwritten⟩
  · rintro ⟨index, within, unwritten⟩
    exact ⟨⟨List.mem_finRange f, within⟩, index.symm, unwritten⟩

theorem plantItems_fails (w : WorkingConfig) (i : Nat) :
    Fails (plantItems w.plant) i ↔
      (i = 1 ∧ w.plant.filterCount < 2) ∨ (i = 3 ∧ w.plant.maxFilterFlow = none) ∨ (i = 4 ∧ w.plant.fallbackFlow = none) ∨
        (i = 7 ∧ w.plant.tankReserve = none) ∨ (i = 8 ∧ w.plant.basinReserve = none) ∨
        (i = 22 ∧ w.plant.tankThreshold = none) ∨ (i = 23 ∧ w.plant.basinThreshold = none) := by
  have unset : ∀ x : Option Nat, false = x.isSome ↔ x = none := fun x => by cases x <;> simp
  have small : ∀ n, false = decide (2 ≤ n) ↔ n < 2 := fun n => by simp
  simp only [Fails, plantItems, List.mem_cons, List.not_mem_nil, or_false, Prod.mk.injEq, unset, small]

theorem items_increase (w : WorkingConfig) : (plantItems w.plant ++ filterItems w).Pairwise fun x y => x.1 < y.1 := by
  have sorted : (filterItems w).Pairwise fun x y => x.1 < y.1 := by
    have filters : allFilters.Pairwise fun f g => f < g := List.pairwise_lt_finRange 20
    refine List.Pairwise.map _ (fun f g lt => ?_) (filters.filter _)
    have : f.val < g.val := lt
    simp only [filterNumber]
    omega
  refine List.pairwise_append.2 ⟨by simp [plantItems], sorted, fun x hx y hy => ?_⟩
  have low : x.1 ≤ 23 := by
    simp only [plantItems, List.mem_cons, List.not_mem_nil, or_false] at hx
    rcases hx with rfl | rfl | rfl | rfl | rfl | rfl | rfl <;> simp
  obtain ⟨f, -, rfl⟩ := List.mem_map.1 hy
  exact Nat.lt_of_le_of_lt low (by simp only; omega)

theorem items_fail (w : WorkingConfig) (i : Nat) : Fails (plantItems w.plant ++ filterItems w) i ↔ itemFails w i := by
  unfold itemFails
  rw [← filterItems_fails]
  simp only [← or_assoc]
  rw [Fails, List.mem_append]
  have plant := plantItems_fails w i
  unfold Fails at plant
  rw [plant]
  simp only [← or_assoc]
  exact Iff.rfl

theorem failingItem_spec (w : WorkingConfig) :
    (failingItem w = none ↔ ∀ i, ¬ itemFails w i) ∧
      ∀ i, failingItem w = some i ↔ itemFails w i ∧ ∀ j < i, ¬ itemFails w j := by
  simp only [← items_fail]
  exact find?_failing (items_increase w)

theorem exec_commit (ready : Ready s) (setup : s.mc.mode = .setup) {d : Decision}
    (decided : (taken s .commit []).commitStore = d) :
    exec (.commit []) s = .next ((taken s .commit []).answerCommit d) := by
  refine congrArg _ ((if_pos ((State.hears_iff s).2 ready)).trans ((if_neg (by decide)).trans ?_))
  refine congrArg (State.answerCommit (taken s .commit [])) ?_
  unfold judge
  refine (if_neg (by decide)).trans ((if_neg ?_).trans decided)
  have mode : (s.frameTaken (BitVec.ofNat 8 Kind.commit.code) []).mc.mode = .setup := setup
  rw [mode]
  decide

/-- Settles O10, from the order of the items and the decision of COMMIT. -/
theorem commitWritesTheStore : Obligations.CommitWritesTheStore := by
  refine ⟨failingItem_spec, fun s => ⟨fun ready setup => ⟨fun valid => ?_, fun i fails => ?_⟩, fun running image writing => ?_,
    fun idle => congrArg _ (whenRunning_idle ?_)⟩⟩
  · have decided : (taken s .commit []).commitStore = accept (taken s .commit []).startCommit [] := by
      unfold State.commitStore
      rw [show failingItem (taken s .commit []).cs.working = none from valid]
    rw [exec_commit ready setup decided]
    rfl
  · have decided : (taken s .commit []).commitStore = .error ⟨.invalid, i⟩ := by
      unfold State.commitStore
      rw [show failingItem (taken s .commit []).cs.working = some i from fails]
    rw [exec_commit ready setup decided]
    rfl
  · refine congrArg _ ((State.whenRunning_of_running running _).trans ?_)
    rw [writing]
    rfl
  · rw [idle]

end Sys2Proof.Claim

/-! The plant second, the flow, movements, and the acknowledgement of notices (R5, R20, R47 to R49, R173, R174, R183). -/

namespace Sys2Proof.Claim

open Sys2Proof.Machine Sys2Proof.Safety

variable {s : State} {k : Kind} {body : List Byte} {own : State → Decision}

/-! ### Decided requests -/

/-- A frame of a known kind is taken and passes the tests of R163. -/
structure Passes (s : State) (k : Kind) (body : List Byte) : Prop where
  ready  : Ready s
  length : body.length = k.bodyLength body
  fits   : body.length ≤ 240
  mode   : k.accepted s.mc.mode = true

/-- It is answered by the decision of its owning block. -/
theorem Passes.decided {d : Decision} (h : Passes s k body) (decided : own (taken s k body) = d) :
    s.receive k body own = (taken s k body).answer k d :=
  (State.receive_own h.ready.1 h.ready.2 h.length h.fits h.mode).trans (congrArg _ decided)

/-! ### The plant second (R20, R183) -/

/-- Settles O11: a filter in SERVICE runs on, and the others stay. -/
theorem plantSecondAdvances : Obligations.PlantSecondAdvances := by
  intro s running
  refine congrArg _ ((State.whenRunning_of_running running _).trans ?_)
  unfold State.tick State.advanceRunSeconds
  rw [mapEach_eq_map]
  rfl

/-! ### Flow (R47, R48) -/

/-- R is the least count of filters that carries a flow. -/
theorem requiredFor_least {q m : Nat} (positive : 0 < m) :
    q ≤ requiredFor (some q) (some m) * m ∧ ∀ n, q ≤ n * m → requiredFor (some q) (some m) ≤ n := by
  unfold requiredFor ceilDiv
  dsimp only
  refine ⟨?_, fun n enough => ?_⟩
  · have := Nat.lt_mul_div_succ (q + m - 1) positive
    rw [Nat.mul_succ, Nat.mul_comm] at this
    omega
  · refine Nat.le_of_lt_succ ((Nat.div_lt_iff_lt_mul positive).2 ?_)
    rw [Nat.succ_mul]
    omega

theorem passes_flow (ready : Ready s) (a b : Byte) : Passes s .flow [a, b] := ⟨ready, rfl, Nat.le_of_ble_eq_true rfl, rfl⟩

theorem flowBody_of_fresh {t : State} (fresh : t.au.fresh = true) :
    t.flowBody = [0] ++ be16 t.au.required ++ be8 t.serviceCount ++ be8 (if t.au.breach then 1 else 0) := by
  unfold State.flowBody
  rw [fresh]
  rfl

theorem evalFloor_fresh (t : State) : t.evalFloor.au.fresh = t.au.fresh := by rw [State.evalFloor_eq]

/-- Settles O12, from the rounding of R and the two decisions on a report. -/
theorem flowIsReportedAndGoesStale : Obligations.FlowIsReportedAndGoesStale := by
  refine ⟨fun q m => requiredFor_least, fun s => ⟨fun ready a b => ⟨fun above => ?_, fun within => ?_⟩,
    fun running start fresh arrival => ⟨fun due => ?_, fun early => ?_⟩, fun stale => ?_⟩⟩
  · exact congrArg Host.Outcome.next ((passes_flow ready a b).decided (d := refuse .range) (if_pos above))
  · refine congrArg Host.Outcome.next (((passes_flow ready a b).decided
      (d := accept ((taken s .flow [a, b]).takeFlow (a.toNat * 256 + b.toNat))
        ((taken s .flow [a, b]).takeFlow (a.toNat * 256 + b.toNat)).flowBody) (if_neg (Nat.not_lt.2 within))).trans ?_)
    exact congrArg (granted _ .flow) (flowBody_of_fresh (evalFloor_fresh _))
  · have timed : s.flowTimedOut = true := by
      simp only [State.flowTimedOut, fresh, arrival, Bool.true_and]
      exact (State.expired_iff ..).2 due
    exact congrArg _ ((State.whenRunning_of_running running _).trans (if_pos timed))
  · have timed : ¬ s.flowTimedOut = true := by
      simp only [State.flowTimedOut, fresh, arrival, Bool.true_and]
      exact fun k => early ((State.expired_iff ..).1 k)
    exact congrArg _ (whenRunning_idle (if_neg timed))
  · have timed : ¬ s.flowTimedOut = true := by simp [State.flowTimedOut, stale]
    exact congrArg _ (whenRunning_idle (if_neg timed))

/-! ### Movements (R5) -/

theorem viewAgrees_eq (opens : Bool) (seen : ValveView) :
    (!viewAgrees opens seen) = decide (seen ≠ if opens then .opened else .closed) := by
  cases opens <;> cases seen <;> rfl

theorem valveNamed_eq_offender (p : Pattern) (answered : Bool) (view : PerValve ValveView) :
    valveNamed p answered view = offender p answered view := by
  unfold valveNamed offender firstOff
  simp only [viewAgrees_eq]
  rfl

theorem Movement.pattern_eq (m : Movement) : m.pattern = if m.toService then .service else .isolated := rfl

/-- Settles O13: the movement that expires is the one in travel. -/
theorem movementFailsAtTheTravelLimit : Obligations.MovementFailsAtTheTravelLimit := by
  refine fun f s => ⟨fun running m pending => ⟨fun due => ?_, fun early => ?_⟩, fun still => ?_⟩
  · refine congrArg _ ((State.whenRunning_of_running running _).trans ?_)
    unfold State.movementExpires
    rw [pending]
    refine (if_pos ((State.expired_iff ..).2 due)).trans ?_
    unfold State.failMovement
    rw [valveNamed_eq_offender]
    rfl
  · refine congrArg _ (whenRunning_idle ?_)
    unfold State.movementExpires
    rw [pending]
    exact if_neg fun k => early ((State.expired_iff ..).1 k)
  · refine congrArg _ (whenRunning_idle ?_)
    unfold State.movementExpires
    rw [still]

/-! ### Acknowledgement (R173, R174) -/

theorem sum_map_two_mul (l : List Nat) : (l.map (2 * ·)).sum = 2 * l.sum := by
  induction l with
  | nil => rfl
  | cons x xs ih => rw [List.map_cons, List.sum_cons, List.sum_cons, ih, Nat.mul_add]

theorem bitField_ofFn {n : Nat} (p : Fin n → Bool) :
    bitField (List.ofFn p) = (List.ofFn fun k => if p k then 2 ^ k.val else 0).sum := by
  induction n with
  | zero => rfl
  | succ n ih =>
    have twice : (List.ofFn fun k : Fin n => if p k.succ then 2 ^ (k.val + 1) else 0) =
        (List.ofFn fun k : Fin n => if p k.succ then 2 ^ k.val else 0).map (2 * ·) := by
      rw [List.map_ofFn]
      congr 1
      funext k
      simp only [Function.comp]
      split
      · rw [Nat.pow_succ, Nat.mul_comm]
      · rfl
    rw [List.ofFn_succ, List.ofFn_succ, bitField, ih, List.sum_cons]
    simp only [Fin.val_succ, twice, sum_map_two_mul]
    rfl

theorem ofFn_eq_map_finRange {α : Type} {n : Nat} (g : Fin n → α) : List.ofFn g = (List.finRange n).map g :=
  List.ext_getElem (by simp) fun i h k => by simp

theorem toList_eq_ofFn {α : Type} {n : Nat} (v : Vector α n) : v.toList = List.ofFn fun k : Fin n => v[k.val] :=
  List.ext_getElem (by simp) fun i h k => by simp

theorem pendingBits_eq (u : NoticeUnit) :
    u.pendingBits = ((List.finRange 12).map fun k => if (u.accounts[k.val]).pending then 2 ^ k.val else 0).sum := by
  unfold NoticeUnit.pendingBits
  rw [toList_eq_ofFn, List.map_ofFn, bitField_ofFn, ofFn_eq_map_finRange]
  rfl

theorem anyPending_eq (u : NoticeUnit) : u.anyPending = decide (∃ k : Fin 12, (u.accounts[k.val]).pending = true) := by
  unfold NoticeUnit.anyPending
  rw [toList_eq_ofFn, Bool.eq_iff_iff, List.any_eq_true, decide_eq_true_eq]
  constructor
  · rintro ⟨a, m, pending⟩
    obtain ⟨k, rfl⟩ := List.mem_ofFn.1 m
    exact ⟨k, pending⟩
  · rintro ⟨k, pending⟩
    exact ⟨_, List.mem_ofFn.2 ⟨k, rfl⟩, pending⟩

theorem zipIdx_toList {α : Type} {n : Nat} (v : Vector α n) :
    v.toList.zipIdx = (List.finRange n).map fun k => (v[k.val], k.val) :=
  List.ext_getElem (by simp) fun i h k => by simp

theorem ackBody_eq (before after : NoticeUnit) (set : BitVec 12) :
    ackBody before after set =
      (((List.finRange 12).filter fun k => set.getLsbD k.val).flatMap fun k =>
        [BitVec.ofNat 8 (before.accounts[k.val]).count, BitVec.ofNat 8 (before.accounts[k.val]).lastFilter]) ++
      be16 after.pendingBits := by
  unfold ackBody
  rw [zipIdx_toList, List.filter_map, List.flatMap_map]
  rfl

theorem acknowledge_eq (s : State) (set : BitVec 12) :
    s.acknowledge set =
      let left : Vector NoticeAccount 12 :=
        Vector.ofFn fun k => if set.getLsbD k.val then ⟨false, 0, 0⟩ else s.nu.accounts[k.val]
      { s with nu := { s.nu with
        accounts := left, attnGap := decide (∃ k : Fin 12, (left[k.val]).pending = true), attnDriven := false } } := by
  unfold State.acknowledge NoticeUnit.updateAttn
  simp only [anyPending_eq, Bool.and_not_self]
  rfl

theorem passes_noticeAck (ready : Ready s) (a b : Byte) : Passes s .noticeAck [a, b] := ⟨ready, rfl, Nat.le_of_ble_eq_true rfl, rfl⟩

theorem endGap_eq (s : State) :
    s.endGap = { s with
      nu := { s.nu with attnGap := false, attnDriven := decide (∃ k : Fin 12, (s.nu.accounts[k.val]).pending = true) } } := by
  unfold State.endGap NoticeUnit.updateAttn
  simp only [anyPending_eq, Bool.not_false, Bool.and_true]

/-- Settles O20: the set that is cleared, and what stays pending, account by account. -/
theorem noticesAreAcknowledged : Obligations.NoticesAreAcknowledged := by
  refine fun s => ⟨fun ready a b => ?_, fun running => ⟨fun gap => ?_, fun noGap => ?_⟩⟩
  · refine congrArg Host.Outcome.next (((passes_noticeAck ready a b).decided (d := accept _ _) rfl).trans ?_)
    rw [acknowledge_eq, ackBody_eq, pendingBits_eq]
    rfl
  · exact congrArg _ ((State.whenRunning_of_running running _).trans ((if_pos gap).trans (endGap_eq s)))
  · exact congrArg _ (whenRunning_idle (if_neg (by rw [noGap]; decide)))

end Sys2Proof.Claim

/-! The timers of a wash: the limits of its phases, its supplies, its steps and its exit (R78, R79, R82, R83, R100, R103, R117,
R136). -/

namespace Sys2Proof.Claim

open Sys2Proof.Machine Sys2Proof.Safety

variable {s : State} {c : Slot} {w : WashContext}

/-! ### The limits of the phases -/

theorem activeIn_iff (w : WashContext) (p : Phase) : w.activeIn p = true ↔ w.state = .active ∧ w.phase = p := by
  simp [WashContext.activeIn]

theorem whenPhaseExpired_due {p : Phase} {limit : Nat} {g : WashContext → State} (h : InPhase s c w p)
    (due : Expired s w.phaseStart limit) : s.whenPhaseExpired c p limit g = g w := by
  obtain ⟨ctx, active, phase⟩ := h
  unfold State.whenPhaseExpired
  rw [State.withCtx_some ctx]
  refine if_pos ?_
  rw [Bool.and_eq_true, activeIn_iff, State.expired_iff]
  exact ⟨⟨active, phase⟩, due⟩

theorem whenPhaseExpired_early {p : Phase} {limit : Nat} {g : WashContext → State}
    (early : ∀ w, InPhase s c w p → ¬ Expired s w.phaseStart limit) : s.whenPhaseExpired c p limit g = s := by
  unfold State.whenPhaseExpired
  cases ctx : s.ctx c with
  | none => exact State.withCtx_none ctx _
  | some w =>
    rw [State.withCtx_some ctx]
    refine if_neg ?_
    rw [Bool.and_eq_true, activeIn_iff, State.expired_iff]
    rintro ⟨⟨active, phase⟩, due⟩
    exact early w ⟨ctx, active, phase⟩ due

/-- Settles O14: an exit decided when the phase's timer has run out. -/
theorem phaseLimitsDecideExits : Obligations.PhaseLimitsDecideExits := by
  intro c s running
  have run := State.whenRunning_of_running running
  refine ⟨fun w h due => congrArg _ ((run _).trans ((whenPhaseExpired_due h due).trans ?_)),
    fun w h due => congrArg _ ((run _).trans ((whenPhaseExpired_due h due).trans ?_)),
    fun w h due => congrArg _ ((run _).trans ((whenPhaseExpired_due h due).trans ?_)),
    fun early => congrArg _ (whenRunning_idle (whenPhaseExpired_early early)),
    fun early => congrArg _ (whenRunning_idle (whenPhaseExpired_early early)),
    fun early => congrArg _ (whenRunning_idle (whenPhaseExpired_early early))⟩
  · exact decideExit_eq h.1 h.2.1 _ _
  · rw [valveNamed_eq_offender]
    exact decideExit_eq h.1 h.2.1 _ _
  · exact decideExit_eq h.1 h.2.1 _ _

/-! ### The ramp window (R103, R104) -/

theorem rampTimerExpires_eq {start : Seconds} (h : InPhase s c w .ramping) (window : w.windowStart = some start) :
    s.rampTimerExpires c = if s.expired start s.plant.rampWindow then s.rampExpired c else s := by
  obtain ⟨ctx, active, phase⟩ := h
  unfold State.rampTimerExpires
  rw [State.withCtx_some ctx]
  simp only [window, (activeIn_iff w .ramping).2 ⟨active, phase⟩, Bool.true_and]

/-- Settles O15: the fallback is taken while the step has one and it is not used. -/
theorem rampWindowFallsBackOnce : Obligations.RampWindowFallsBackOnce := by
  intro c s w start running h window
  have run := State.whenRunning_of_running running
  refine ⟨fun early => congrArg _ (whenRunning_idle ?_), fun due => ⟨fun has unused => ?_, fun spent => ?_⟩⟩
  · rw [rampTimerExpires_eq h window]
    exact if_neg fun k => early ((State.expired_iff ..).1 k)
  · refine congrArg _ ((run _).trans ((rampTimerExpires_eq h window).trans ((if_pos ((State.expired_iff ..).2 due)).trans ?_)))
    unfold State.rampExpired
    rw [State.withCtx_some h.1]
    exact if_pos (by simp [has, unused])
  · refine congrArg _ ((run _).trans ((rampTimerExpires_eq h window).trans ((if_pos ((State.expired_iff ..).2 due)).trans ?_)))
    unfold State.rampExpired
    rw [State.withCtx_some h.1]
    refine (if_neg ?_).trans (decideExit_eq h.1 h.2.1 _ _)
    rcases spent with none | used
    · simp [none]
    · simp [used]

/-! ### The start confirm time (R100) -/

theorem startTimerExpires_eq {p : SupplyPair} {u : UnitId} {tried : UnitSet} {start : Seconds} (ctx : s.ctx c = some w)
    (starting : w.supply p = .starting u tried start) :
    s.startTimerExpires c p = if s.expired start s.plant.startConfirm then s.startExpired c p u tried else s := by
  unfold State.startTimerExpires
  rw [State.withCtx_some ctx]
  simp only [starting]

theorem other_eq (u : UnitId) : u.other = if u = .a then UnitId.b else UnitId.a := by cases u <;> rfl

theorem only_eq (u : UnitId) : UnitSet.only u = ⟨u = .a, u = .b⟩ := by cases u <;> rfl

/-- A flagged unit leaves the flag of the other as it is. -/
theorem unitFaults_failUnit (s : State) (p : SupplyPair) (u : UnitId) :
    ((s.failUnit p u).unitFaults p).has u.other = (s.unitFaults p).has u.other := by
  have flags : (s.failUnit p u).unitFaults p = (s.setUnitFault p u true).unitFaults p := by
    unfold State.failUnit
    rw [State.raise_eq]
    rfl
  rw [flags]
  cases p <;> cases u <;> rfl

theorem failUnit_now (s : State) (p : SupplyPair) (u : UnitId) : (s.failUnit p u).now = s.now := by
  unfold State.failUnit
  rw [State.raise_eq]
  cases p <;> rfl

theorem setSupply_state (w : WashContext) (p : SupplyPair) (x : SupplyState) : (w.setSupply p x).state = w.state := by
  cases p <;> rfl

/-- Settles O16: the standby is tried when it is neither tried nor flagged. -/
theorem startExpiryTriesTheStandby : Obligations.StartExpiryTriesTheStandby := by
  intro c p s w u tried start running ctx starting
  have run := State.whenRunning_of_running running
  dsimp only
  rw [← other_eq]
  have written : ∀ x, ((s.failUnit p u).writeUnits p x).ctx c = some w := fun x =>
    ((Calm.failUnit s p u).trans (Calm.writeUnits _ p x)).ctx c |>.trans ctx
  refine ⟨fun early => congrArg _ (whenRunning_idle ?_), fun due => ⟨fun untried free => ?_, fun spent => ?_⟩⟩
  · rw [startTimerExpires_eq ctx starting]
    exact if_neg fun k => early ((State.expired_iff ..).1 k)
  · refine congrArg _ ((run _).trans ((startTimerExpires_eq ctx starting).trans ((if_pos ((State.expired_iff ..).2 due)).trans ?_)))
    unfold State.startExpired
    refine (if_pos ?_).trans ?_
    · rw [untried, unitFaults_failUnit, free]
      rfl
    · unfold State.startUnit
      rw [State.modCtx_some (written _), only_eq, failUnit_now]
      rfl
  · have failed : s.whenRunning (fun s => s.startTimerExpires c p) = (s.failUnit p u).startFailed c p := by
      refine (run _).trans ((startTimerExpires_eq ctx starting).trans ((if_pos ((State.expired_iff ..).2 due)).trans ?_))
      unfold State.startExpired
      refine if_neg ?_
      rw [unitFaults_failUnit]
      rcases spent with tried | flagged
      · simp [tried]
      · simp [flagged]
    have stopped : ((s.failUnit p u).writeUnits p ⟨false, false⟩).modCtx c (fun w => w.setSupply p .stopped) =
        ((s.failUnit p u).writeUnits p ⟨false, false⟩).setCtx c (some (w.setSupply p .stopped)) := State.modCtx_some (written _) _
    refine ⟨fun active => congrArg _ (failed.trans ?_), fun inactive => congrArg _ (failed.trans ?_)⟩
    · unfold State.startFailed
      rw [stopped, decideExit_eq (State.ctx_setCtx_same ..) ((setSupply_state ..).trans active)]
      cases p <;> rfl
    · unfold State.startFailed
      rw [stopped]
      refine State.decideExit_inactive (fun v hv => ?_) _ _
      rw [State.ctx_setCtx_same] at hv
      cases hv
      rwa [setSupply_state]

end Sys2Proof.Claim

/-! The ends of steps and of exits (R82, R117, R136). -/

namespace Sys2Proof.Claim

open Sys2Proof.Machine Sys2Proof.Safety

variable {s : State} {c : Slot} {w : WashContext} {p : PlannedStep}

/-! ### Step ends (R82) -/

/-- The planned volumes leave the commitments, and the mark is set. -/
theorem subtractStep_markWashed_eq (ctx : s.ctx c = some w) (planned : w.planned? = some p) :
    (s.subtractStep c).markWashed c = volumesLeft s c w p := by
  unfold State.subtractStep
  rw [State.withCtx_some ctx]
  simp only [planned]
  unfold State.markWashed
  rw [State.modCtx_some (ctx_written rfl)]
  simp only [State.commitDelta, State.setCtx, Vector.set_set, ← Int.sub_eq_add_neg]
  rfl

theorem volumesLeft_ctx (s : State) (c : Slot) (w : WashContext) (p : PlannedStep) :
    (volumesLeft s c w p).ctx c = some { w with
      tankRemaining := w.tankRemaining - p.water
      basinRemaining := w.basinRemaining - p.waste
      progress := if w.stepIndex = w.profile.lastWater then .washed else w.progress
      lowFlowStart := none } := ctx_written rfl

theorem enterHoldpoint_eq (s : State) (c : Slot) (w : WashContext) (p : PlannedStep) :
    (volumesLeft s c w p).enterHoldpoint c = holdState s c w p := by
  unfold State.enterHoldpoint
  rw [State.modCtx_some (volumesLeft_ctx ..), stopHeld_eq (State.ctx_setCtx_same ..)]
  simp only [inSlot, State.setCtx, volumesLeft, Vector.set_set]
  rfl

/-- The end of the step a context stands at. -/
theorem endStep_eq (ctx : s.ctx c = some w) (planned : w.planned? = some p) : s.endStep c = stepEnded s c w p := by
  unfold State.endStep
  rw [State.withCtx_some ctx]
  simp only [planned]
  rw [subtractStep_markWashed_eq ctx planned, enterHoldpoint_eq]
  rfl

theorem kind?_eq (planned : w.planned? = some p) : w.kind? = some p.step.kind := by
  unfold WashContext.kind?
  rw [planned]
  rfl

/-- The duration of the step that a context in TIMING stands at. -/
theorem durationReached_iff (h : InPhase s c w .timing) (planned : w.planned? = some p) :
    s.durationReached w = true ↔ Expired s w.phaseStart p.step.duration := by
  unfold State.durationReached WashContext.duration
  rw [planned, Bool.and_eq_true, State.expired_iff, activeIn_iff]
  exact and_iff_right h.2

/-- Settles O17: the duration of a step that is not RIPEN. -/
theorem stepEndsAtItsDuration : Obligations.StepEndsAtItsDuration := by
  intro c s w p running h planned
  have reached := durationReached_iff h planned
  have kind := kind?_eq planned
  refine ⟨fun early => congrArg _ (whenRunning_idle ((State.withCtx_some h.1 _).trans (if_neg ?_))),
    fun ripen => congrArg _ (whenRunning_idle ((State.withCtx_some h.1 _).trans (if_neg ?_))),
    fun other due => congrArg _ ((State.whenRunning_of_running running _).trans
      ((State.withCtx_some h.1 _).trans ((if_pos ?_).trans (endStep_eq h.1 planned))))⟩
  · simp [mt reached.1 early]
  · simp [kind, ripen]
  · simp [reached.2 due, kind, other]

theorem volumesLeft_setCtx (s : State) (c : Slot) (x : Option WashContext) (w : WashContext) (p : PlannedStep) :
    volumesLeft (s.setCtx c x) c w p = volumesLeft s c w p := by
  simp only [volumesLeft, State.setCtx, Vector.set_set]

theorem stepEnded_setCtx (s : State) (c : Slot) (x : Option WashContext) (w : WashContext) (p : PlannedStep) :
    stepEnded (s.setCtx c x) c w p = stepEnded s c w p := by
  simp only [stepEnded, holdState, volumesLeft, State.setCtx, Vector.set_set]
  rfl

/-- A RIPEN step at its maximum duration, by the attempt (R117, R120). -/
theorem ripenUnmet_eq (ctx : s.ctx c = some w) (planned : w.planned? = some p) :
    s.ripenUnmet c =
      let w' := { w with ripenResult := .unmet }
      if w.secondAttempt = true then
        exitState (volumesLeft s c w' p) c { w' with
          tankRemaining := w.tankRemaining - p.water
          basinRemaining := w.basinRemaining - p.waste
          progress := if w.stepIndex = w.profile.lastWater then .washed else w.progress
          lowFlowStart := none } .safeExit none none
      else stepEnded s c w' p := by
  have marked : (s.setCtx c (some { w with ripenResult := .unmet })).ctx c = some { w with ripenResult := .unmet } :=
    State.ctx_setCtx_same ..
  unfold State.ripenUnmet
  rw [State.modCtx_some ctx]
  dsimp only
  rw [State.withCtx_some marked, endStep_eq marked planned, subtractStep_markWashed_eq marked planned, volumesLeft_setCtx,
    stepEnded_setCtx, State.withCtx_some (volumesLeft_ctx ..), decideExitAs_eq]

/-- Settles O18: the maximum duration of a RIPEN step. -/
theorem ripenEndsUnmetAtItsMaximum : Obligations.RipenEndsUnmetAtItsMaximum := by
  intro c s w p running h planned
  have reached := durationReached_iff h planned
  have kind := kind?_eq planned
  have ends : p.step.kind = .ripen → Expired s w.phaseStart p.step.duration → exec (.ripenMaximumDuration c) s =
      .next (s.ripenUnmet c) := fun ripen due =>
    congrArg _ ((State.whenRunning_of_running running _).trans
      ((State.withCtx_some h.1 _).trans (if_pos (by simp [reached.2 due, kind, ripen]))))
  refine ⟨fun early => congrArg _ (whenRunning_idle ((State.withCtx_some h.1 _).trans (if_neg ?_))),
    fun other => congrArg _ (whenRunning_idle ((State.withCtx_some h.1 _).trans (if_neg ?_))),
    fun ripen due => ⟨fun first => (ends ripen due).trans ?_, fun second => (ends ripen due).trans ?_⟩⟩
  · simp [mt reached.1 early]
  · simp [kind, other]
  · rw [ripenUnmet_eq h.1 planned]
    exact congrArg _ (if_neg (by simp [first]))
  · rw [ripenUnmet_eq h.1 planned]
    exact congrArg _ (if_pos second)

/-! ### The end of an exit that fails (R136) -/

theorem notWaiting_of_bare {c : Slot} {e : HeaderEntry} (bare : (e.holdings.any fun x => x.slot = c) = false) :
    ({ holdings := (orphaned c e).holdings.filter fun x => x.slot != c
       waiting := (orphaned c e).waiting.filter fun x => x != c } : HeaderEntry) = notWaiting c e := by
  have others : ∀ x ∈ e.holdings, x.slot ≠ c := by simpa using bare
  have same : (orphaned c e).holdings = e.holdings :=
    (List.map_congr_left fun x hx => if_neg (others x hx)).trans (List.map_id _)
  rw [same, List.filter_eq_self.2 fun x hx => bne_iff_ne.2 (others x hx)]
  simp [orphaned, notWaiting]

theorem orphaned_holds (c d : Slot) (e : HeaderEntry) :
    ((orphaned c e).holdings.any fun x => x.slot = d) = e.holdings.any fun x => x.slot = d := by
  have slots : ∀ e : HeaderEntry, (e.holdings.any fun x => x.slot = d) = (e.holdings.map fun x => x.slot).any fun x => x = d :=
    fun e => by simp [List.any_map, Function.comp_def]
  rw [slots, slots, orphaned_slots]

/-- A context is freed whose filter is not in UNKNOWN on a node that is not LOST. -/
theorem freedState_of_known {t : State} (known : ¬ ((t.filter w.filter).state = .unknown ∧ (t.link (.filter w.filter)).lost = false)) :
    freedState t c w = { t with
      ss := { contexts := t.ss.contexts.set c.val none }
      ra := { t.ra with
        headers :=
          ⟨{ holdings := t.ra.headers.air.holdings.filter fun x => x.slot != c
             waiting := t.ra.headers.air.waiting.filter fun x => x != c },
           { holdings := t.ra.headers.wash.holdings.filter fun x => x.slot != c
             waiting := t.ra.headers.wash.waiting.filter fun x => x != c },
           { holdings := t.ra.headers.ftw.holdings.filter fun x => x.slot != c
             waiting := t.ra.headers.ftw.waiting.filter fun x => x != c }⟩
        tankTotal := t.ra.tankTotal - w.tankRemaining
        basinTotal := t.ra.basinTotal - w.basinRemaining } } := by
  unfold freedState
  rw [if_neg known]

/-- The end of a failed exit, from a state that has its record and its notices. -/
theorem orphanOrFree_eq {t : State} {x : WashContext} (ctx : t.ctx c = some x) (fault : (t.filter x.filter).state = .fault) :
    ((∀ h, t.holds c h = false) → ((t.makeOrphan c).freeIfBare c).shedRemove c = { t with
      ss := { contexts := t.ss.contexts.set c.val none }
      ra := { t.ra with
        headers := ⟨notWaiting c t.ra.headers.air, notWaiting c t.ra.headers.wash, notWaiting c t.ra.headers.ftw⟩
        tankTotal := t.ra.tankTotal - x.tankRemaining
        basinTotal := t.ra.basinTotal - x.basinRemaining }
      au := { t.au with shed := t.au.shed.filter fun x => x != c } }) ∧
    ((∃ h, t.holds c h = true) → ((t.makeOrphan c).freeIfBare c).shedRemove c = { t with
      ss := { contexts := t.ss.contexts.set c.val (some { x with
        state := .orphan, exitStart := none, windowStart := none, lowFlowStart := none }) }
      ra := { t.ra with
        headers := ⟨orphaned c t.ra.headers.air, orphaned c t.ra.headers.wash, orphaned c t.ra.headers.ftw⟩ }
      au := { t.au with shed := t.au.shed.filter fun x => x != c } }) := by
  have holds : ∀ h, (t.makeOrphan c).holds c h = t.holds c h := fun h =>
    (congrArg (fun e : HeaderEntry => e.holdings.any fun y => y.slot = c) (makeOrphan_header ctx h)).trans (orphaned_holds ..)
  rw [freeIfBare_eq]
  unfold freedWhenBare
  rw [makeOrphan_ctx ctx]
  dsimp only
  constructor
  · intro bare
    rw [if_pos ⟨rfl, fun h _ => (holds h).trans (bare h)⟩, makeOrphan_eq ctx]
    have known : ¬ ((t.filter x.filter).state = .unknown ∧ (t.link (.filter x.filter)).lost = false) := by simp [fault]
    have air := notWaiting_of_bare (e := t.ra.headers.air) (bare .air)
    have wash := notWaiting_of_bare (e := t.ra.headers.wash) (bare .wash)
    have ftw := notWaiting_of_bare (e := t.ra.headers.ftw) (bare .ftw)
    rw [freedState_of_known (by exact known)]
    simp only [State.shedRemove, inSlot, Vector.set_set]
    rw [air, wash, ftw]
  · rintro ⟨h, held⟩
    rw [if_neg, makeOrphan_eq ctx]
    · rfl
    · rintro ⟨-, none⟩
      have free := none h (by cases h <;> simp)
      rw [holds, held] at free
      cases free

/-- Steps 1 to 4 of a failed exit write neither the contexts nor the RA. -/
theorem exitFailed_eq (s : State) (c : Slot) (w : WashContext) (k : ExitKind) :
    (exitFailed s c w k).ss = s.ss ∧ (exitFailed s c w k).ra = s.ra ∧
      ((exitFailed s c w k).filter w.filter).state = .fault := by
  unfold exitFailed
  dsimp only
  rw [State.raise_eq, State.raise_eq _ .fault]
  exact ⟨State.changeState_ss .., State.changeState_ra .., congrArg FilterRecord.state (State.changeState_filter_same ..)⟩

theorem failExit_eq {k : ExitKind} (ctx : s.ctx c = some w) (kind : w.exitKind = some k) :
    s.failExit c = (((exitFailed s c w k).setCtx c (some { w with secondCause := some .valveTravel })).makeOrphan c
      |>.freeIfBare c).shedRemove c := by
  have written : (exitFailed s c w k).ctx c = some w := (congrArg (fun t : Sequencer => t.contexts[c.val]) (exitFailed_eq s c w k).1).trans ctx
  rw [← State.modCtx_some (g := fun w => { w with secondCause := some .valveTravel }) written]
  unfold State.failExit exitFailed
  rw [State.withCtx_some ctx, kind]
  dsimp only
  rw [valveNamed_eq_offender, pattern_eq_exitPattern, snapshotOf_some, recordWash_eq]
  have raised := fun t : State => State.raise_eq t .fault (filterNumber w.filter)
  have wr : ∀ t : State, (t.raise .fault (filterNumber w.filter)).wr = t.wr := fun t => by rw [raised]
  have now : ∀ t : State, (t.raise .fault (filterNumber w.filter)).now = t.now := fun t => by
    rw [raised]
    rfl
  have now' : ∀ (t : State) f st, (t.changeState f st).now = t.now := fun t f st =>
    congrArg (fun m => m.seconds) (State.changeState_mc t f st)
  rw [wr, now, State.changeState_wr, now']
  rfl

/-- Settles O19: the exit's travel timer. -/
theorem exitFailsAtTheTravelLimit : Obligations.ExitFailsAtTheTravelLimit := by
  intro c s w k start running ctx exiting kind started
  have test : s.exitTimerExpires c = if s.expired start s.plant.travelLimit then s.failExit c else s := by
    unfold State.exitTimerExpires
    rw [State.withCtx_some ctx]
    simp only [started, exiting, decide_true, Bool.true_and]
  obtain ⟨ss, ra, fault⟩ := exitFailed_eq s c w k
  have failed : Expired s start s.plant.travelLimit → exec (.exitTravelExpiry c) s = .next (s.failExit c) := fun due =>
    congrArg _ ((State.whenRunning_of_running running _).trans (test.trans (if_pos ((State.expired_iff ..).2 due))))
  have holds : ∀ h, ((exitFailed s c w k).setCtx c (some { w with secondCause := some .valveTravel })).holds c h = s.holds c h :=
    holds_congr (congrArg ResourceUnit.headers ra) c
  obtain ⟨bare, holding⟩ := orphanOrFree_eq (t := (exitFailed s c w k).setCtx c (some { w with secondCause := some .valveTravel }))
    (State.ctx_setCtx_same ..) fault
  refine ⟨fun early => congrArg _ (whenRunning_idle (test.trans (if_neg fun k => early ((State.expired_iff ..).1 k)))),
    fun due => ⟨fun none => ?_, fun ⟨h, held⟩ => ?_⟩⟩
  · rw [failed due, failExit_eq ctx kind, bare fun h => (holds h).trans (none h)]
    simp only [State.setCtx, Vector.set_set, ss, ra]
  · rw [failed due, failExit_eq ctx kind, holding ⟨h, (holds h).trans held⟩]
    simp only [State.setCtx, Vector.set_set, ss, ra]

end Sys2Proof.Claim

/-! Requests that name a filter: RELEASE, ISOLATE, CLEAR, WASH, CANCEL and EXIT (R6, R7, R15, R16, R40, R102, R129). -/

namespace Sys2Proof.Claim

open Sys2Proof.Machine Sys2Proof.Safety

variable {s : State} {k : Kind} {body : List Byte} {own : State → Decision} {f : FilterId} {c : Slot} {w : WashContext}

/-! ### Decisions on requests -/

theorem Passes.grants {t : State} {out : List Byte} (h : Passes s k body) (decided : own (taken s k body) = accept t out) :
    Host.Outcome.next (s.receive k body own) = (.next (granted t k out) : Result) :=
  congrArg Host.Outcome.next (h.decided decided)

theorem Passes.refusesAt {r : Reason} {i : Nat} (h : Passes s k body) (decided : own (taken s k body) = .error ⟨r, i⟩) :
    Host.Outcome.next (s.receive k body own) = (.next (refused s k body r i) : Result) :=
  congrArg Host.Outcome.next (h.decided decided)

theorem Passes.refuses {r : Reason} (h : Passes s k body) (decided : own (taken s k body) = refuse r) :
    Host.Outcome.next (s.receive k body own) = (.next (refused s k body r 0) : Result) := h.refusesAt decided

/-- A frame of a kind that operates the plant. -/
theorem Operable.passes (h : Operable s) (length : body.length = k.bodyLength body) (fits : body.length ≤ 240)
    (hold : k.accepted .hold = true) (auto : k.accepted .auto = true) : Passes s k body := by
  refine ⟨h.1, length, fits, ?_⟩
  rcases h.2 with mode | mode
  · rwa [mode]
  · rwa [mode]

theorem withFilter_byte (f : FilterId) (g : FilterId → Decision) : withFilter [filterByte f] g = g f :=
  withFilter_some g (u8_filterByte f)

theorem withFilter_no {b : Byte} (h : NoFilter b) (g : FilterId → Decision) : withFilter [b] g = refuse .range :=
  withFilter_none (body := [b]) g h

/-! ### RELEASE and ISOLATE (R6, R7) -/

theorem orphanNames_iff (s : State) (f : FilterId) : s.orphanNames f = true ↔ OrphanNamed s f := by
  simp only [State.orphanNames, allSlots, List.any_eq_true, List.mem_finRange, true_and, OrphanNamed]
  refine exists_congr fun c => ?_
  cases h : s.ctx c <;> simp

theorem releasable_iff (s : State) (f : FilterId) : s.releasable f = true ↔ MayRelease s f := by
  unfold State.releasable MayRelease
  rw [← orphanNames_iff, Bool.and_eq_true, Option.isNone_iff_eq_none]
  refine and_congr_right fun _ => ?_
  cases (s.filter f).state <;> simp [Option.isSome_iff_ne_none]

theorem isolatable_iff (s : State) (f : FilterId) : s.isolatable f = true ↔ MayIsolate s f := by
  unfold State.isolatable MayIsolate
  rw [← orphanNames_iff]
  cases (s.filter f).state <;> simp [Option.isSome_iff_ne_none]

/-- Settles O40: the two requests differ in their test and in the target. -/
theorem releaseAndIsolateStartMovements : Obligations.ReleaseAndIsolateStartMovements := by
  intro s op
  have release : ∀ b, Passes s .release [b] := fun b => op.passes rfl (Nat.le_of_ble_eq_true rfl) rfl rfl
  have isolate : ∀ b, Passes s .isolate [b] := fun b => op.passes rfl (Nat.le_of_ble_eq_true rfl) rfl rfl
  refine ⟨fun b none => ⟨(release b).refuses (withFilter_no none _), (isolate b).refuses (withFilter_no none _)⟩, fun f =>
    ⟨fun may => (release _).grants ((withFilter_byte ..).trans (if_pos ((releasable_iff s f).2 may))),
      fun may => (release _).refuses ((withFilter_byte ..).trans (if_neg (mt (releasable_iff s f).1 may))),
      fun may => (isolate _).grants ((withFilter_byte ..).trans (if_pos ((isolatable_iff s f).2 may))),
      fun may => (isolate _).refuses ((withFilter_byte ..).trans (if_neg (mt (isolatable_iff s f).1 may)))⟩⟩

/-! ### CLEAR (R15, R16, R102) -/

theorem clearTarget_range (s : State) {target : Nat} (h : target < 3) {n : Nat} (none : n = 0 ∨ 20 < n) :
    s.clearTarget target n = refuse .range := by
  unfold State.clearTarget
  rw [filterOfNumber_none none]
  match target, h with
  | 0, _ | 1, _ | 2, _ => rfl

theorem clearTarget_filter (s : State) (f : FilterId) :
    s.clearTarget 0 (u8 [0, filterByte f] 1) = s.clearTripOf f ∧ s.clearTarget 1 (u8 [1, filterByte f] 1) = s.clearDriftOf f ∧
      s.clearTarget 2 (u8 [2, filterByte f] 1) = s.clearHeldOf f := by
  have number : (filterByte f).toNat = f.val + 1 := u8_filterByte f
  have named : filterOfNumber? (filterByte f).toNat = some f := number ▸ filterOfNumber_some f
  unfold State.clearTarget
  refine ⟨?_, ?_, ?_⟩
  all_goals
    simp only [u8, List.getD_cons_succ, List.getD_cons_zero, named]
    rfl

theorem clearTarget_above (s : State) {target : Nat} (h : 6 < target) (n : Nat) : s.clearTarget target n = refuse .range := by
  obtain ⟨k, rfl⟩ := Nat.exists_eq_add_of_lt h
  rw [show 6 + k + 1 = k + 7 by omega]
  unfold State.clearTarget
  cases filterOfNumber? n <;> rfl

theorem clearTarget_unit (s : State) {target : Nat} {p : SupplyPair} {u : UnitId} (unit : clearUnitOf? target = some (p, u))
    (n : Nat) : s.clearTarget target n = if n = 0 then s.clearUnitOf p u else refuse .range := by
  unfold State.clearTarget
  rw [unit]

theorem Operable.passes_clear (h : Operable s) (a b : Byte) : Passes s .clear [a, b] :=
  h.passes rfl (Nat.le_of_ble_eq_true rfl) rfl rfl

/-- CLEAR of a trip, by the latch and the input of its node (R15). -/
theorem clearTripOf_eq (s : State) (f : FilterId) :
    ((s.filter f).trip = none → s.clearTripOf f = refuse .state) ∧
      ∀ i, (s.filter f).trip = some i →
        (∀ x, (s.fnode f).input = some x → x.word.getLsbD i.val = true → s.clearTripOf f = refuse .state) ∧
        ((∀ x, (s.fnode f).input = some x → x.word.getLsbD i.val = false) →
          s.clearTripOf f = accept (s.modFilter f fun r => { r with trip := none }) []) := by
  unfold State.clearTripOf
  refine ⟨fun none => by rw [none], fun i some => ?_⟩
  rw [some]
  unfold State.inputActive
  refine ⟨fun x input active => ?_, fun quiet => ?_⟩
  · dsimp only
    rw [input]
    exact if_pos active
  · refine if_neg ?_
    cases input : (s.fnode f).input with
    | none => exact Bool.false_ne_true
    | some x => exact ne_true_of_eq_false (quiet x input)

/-- CLEAR of a unit's flag (R102). -/
theorem clearUnit_decided (op : Operable s) {code : Byte} {p : SupplyPair} {u : UnitId}
    (unit : clearUnitOf? code.toNat = some (p, u)) (n : Byte) :
    (n ≠ 0 → exec (.clearUnit [code, n]) s = .next (refused s .clear [code, n] .range 0)) ∧
    (n = 0 → (s.unitFaults p).has u = false → exec (.clearUnit [code, n]) s = .next (refused s .clear [code, n] .state 0)) ∧
    (n = 0 → (s.unitFaults p).has u = true → exec (.clearUnit [code, n]) s =
      .next (granted ((taken s .clear [code, n]).setUnitFault p u false) .clear [])) := by
  have passes := op.passes_clear code n
  refine ⟨fun other => passes.refuses ?_, fun zero unset => passes.refuses ?_, fun zero set => passes.grants ?_⟩
  · refine (clearTarget_unit _ unit _).trans (if_neg fun h => other (BitVec.eq_of_toNat_eq h))
  · subst zero
    refine (clearTarget_unit _ unit _).trans ((if_pos rfl).trans (if_neg (ne_true_of_eq_false unset)))
  · subst zero
    exact (clearTarget_unit _ unit _).trans ((if_pos rfl).trans (if_pos set))

/-- Settles O41, by the target. -/
theorem clearRemovesMarks : Obligations.ClearRemovesMarks := by
  intro s op
  have passes := op.passes_clear
  refine ⟨fun b none => ⟨?_, ?_, ?_⟩, fun f => ?_, fun code n => ⟨fun above => ?_, fun low high => ?_⟩⟩
  · exact (passes 0 b).refuses (clearTarget_range _ (Nat.le_of_ble_eq_true rfl) none)
  · exact (passes 1 b).refuses (clearTarget_range _ (Nat.le_of_ble_eq_true rfl) none)
  · exact (passes 2 b).refuses (clearTarget_range _ (Nat.le_of_ble_eq_true rfl) none)
  · have at_target := fun body => clearTarget_filter (taken s .clear body) f
    have trip := fun body => clearTripOf_eq (taken s .clear body) f
    refine ⟨fun none => (passes _ _).refuses ((at_target _).1.trans ((trip _).1 none)),
      fun i x latched input active => (passes _ _).refuses ((at_target _).1.trans (((trip _).2 i latched).1 x input active)),
      fun i latched quiet => (passes _ _).grants ((at_target _).1.trans (((trip _).2 i latched).2 quiet)),
      fun clear => (passes _ _).refuses ((at_target _).2.1.trans (if_neg (ne_true_of_eq_false clear))),
      fun drift => (passes _ _).grants ((at_target _).2.1.trans (if_pos drift)),
      fun other => (passes _ _).refuses ((at_target _).2.2.trans (if_neg ?_)),
      fun held dirty => (passes _ _).grants ((at_target _).2.2.trans (if_pos ?_))⟩
    · show ¬ (decide ((s.filter f).state = .held) && decide ((s.filter f).held = some .dirty)) = true
      rcases other with h | h <;> simp [h]
    · show (decide ((s.filter f).state = .held) && decide ((s.filter f).held = some .dirty)) = true
      simp [held, dirty]
  · exact (passes _ _).refuses (clearTarget_above _ above _)
  · have which : code = 3 ∨ code = 4 ∨ code = 5 ∨ code = 6 := by bv_omega
    rcases which with rfl | rfl | rfl | rfl
    · exact clearUnit_decided (p := .pumps) (u := .a) op rfl n
    · exact clearUnit_decided (p := .pumps) (u := .b) op rfl n
    · exact clearUnit_decided (p := .blowers) (u := .a) op rfl n
    · exact clearUnit_decided (p := .blowers) (u := .b) op rfl n

/-! ### WASH and CANCEL (R40) -/

theorem entry?_putEntry (s : State) (e : QueueEntry) : (s.putEntry e).entry? e.filter = some e := by
  obtain ⟨q, put, members⟩ := putEntry_spec s e
  rw [put]
  show q.find? (fun x => x.filter = e.filter) = some e
  cases found : q.find? fun x => x.filter = e.filter with
  | none => exact absurd rfl (of_decide_eq_false (Bool.eq_false_iff.2 (List.find?_eq_none.1 found e ((members e).2 (.inl rfl)))))
  | some x =>
    have same : x.filter = e.filter := of_decide_eq_true (List.find?_some (p := fun x : QueueEntry => decide (x.filter = e.filter)) found)
    rcases (members x).1 (List.mem_of_find?_eq_some found) with rfl | ⟨-, other⟩
    · rfl
    · exact absurd same other

/-- After a request that is taken, the filter has an entry with the request's cause. -/
theorem request_entry {cause : WashCause} (h : s.queueable f = true) :
    ∃ e, (s.request f cause).entry? f = some e ∧ hasCause e.causes cause = true := by
  cases present : s.entry? f with
  | none =>
    rw [request_of_no_entry cause h present]
    exact ⟨_, entry?_putEntry .., by simp⟩
  | some e =>
    have upgraded : hasCause (e.upgrade cause).causes cause = true := by simp [upgrade_causes]
    rw [request_of_entry cause h present]
    split
    · rename_i same
      exact ⟨e, present, same ▸ upgraded⟩
    · refine ⟨e.upgrade cause, ?_, upgraded⟩
      have := entry?_putEntry s (e.upgrade cause)
      rwa [show (e.upgrade cause).filter = f from filter_of_entry? (e := e) present] at this

theorem washBody_eq {e : QueueEntry} (present : s.entry? f = some e) :
    s.washBody f = entryWire e ++ be8 (s.wq.entries.findIdx fun x => x.filter = f) ++ be16 s.wq.changeNumber.toNat := by
  unfold State.washBody
  rw [present]
  rfl

theorem removeEntry_of_entry {e : QueueEntry} (present : s.entry? f = some e) :
    s.removeEntry f =
      { s with wq := { entries := s.wq.entries.filter fun x => x.filter != f, changeNumber := s.wq.changeNumber + 1 } } := by
  unfold State.removeEntry
  rw [present]
  rfl

/-- Settles O42, by the entry before and after. -/
theorem hostQueuesAndCancels : Obligations.HostQueuesAndCancels := by
  intro s op
  have wash : ∀ b, Passes s .wash [b] := fun b => op.passes rfl (Nat.le_of_ble_eq_true rfl) rfl rfl
  have cancel : ∀ b, Passes s .cancel [b] := fun b => op.passes rfl (Nat.le_of_ble_eq_true rfl) rfl rfl
  refine ⟨fun b none => ⟨(wash b).refuses (withFilter_no none _), (cancel b).refuses (withFilter_no none _)⟩, fun f =>
    ⟨fun out => ?_, fun here => ?_, fun absent => ?_, fun e present => ?_⟩⟩
  · have out : ¬ s.queueable f = true := fun h => out (by simpa using (queueable_iff s f).1 h)
    exact (wash _).refuses ((withFilter_byte ..).trans (if_neg out))
  · have here : s.queueable f = true := (queueable_iff s f).2 (by simpa using here)
    obtain ⟨e, present, host⟩ := request_entry (s := taken s .wash [filterByte f]) (cause := .host) here
    refine ⟨e, present, host, (wash _).grants ((withFilter_byte ..).trans ((if_pos here).trans ?_))⟩
    rw [washBody_eq present]
  · refine (cancel _).refuses ((withFilter_byte ..).trans ?_)
    have absent : (taken s .cancel [filterByte f]).entry? f = none := (entry?_eq_none_iff s f).2 absent
    simp only [absent]
  · refine (cancel _).grants ((withFilter_byte ..).trans ?_)
    have present : (taken s .cancel [filterByte f]).entry? f = some e := present
    simp only [present]
    rw [removeEntry_of_entry present]
    rfl

/-! ### EXIT (R129) -/

/-- The slot that names a filter is the lowest-numbered one. -/
theorem namesFilter_iff (s : State) (c : Slot) (w : WashContext) (f : FilterId) :
    NamesFilter s c w f ↔ s.slotNaming f = some c ∧ s.ctx c = some w := by
  have length : allSlots.length = 4 := List.length_finRange
  have slot_at (i : Nat) (h : i < allSlots.length) : allSlots[i] = ⟨i, length ▸ h⟩ := List.getElem_finRange h
  unfold State.slotNaming
  rw [List.find?_eq_some_iff_getElem]
  constructor
  · rintro ⟨ctx, named, lowest⟩
    refine ⟨⟨by simp [ctx, named], c.val, by omega, slot_at _ _, fun j before => ?_⟩, ctx⟩
    have first := lowest (allSlots[j]'(by omega)) (by rw [slot_at]; exact before)
    cases other : s.ctx (allSlots[j]'(by omega)) with
    | none => rfl
    | some v => simp [first v other]
  · rintro ⟨⟨named, i, inside, at_i, first⟩, ctx⟩
    refine ⟨ctx, by simpa [ctx] using named, fun d before v other same => ?_⟩
    have index : c.val = i := by rw [← at_i, slot_at]
    have := first d.val (index ▸ before)
    rw [slot_at] at this
    simp [other, same] at this

theorem activeWash_iff (s : State) (c : Slot) (w : WashContext) (f : FilterId) :
    s.activeWash f = some (c, w) ↔ NamesFilter s c w f ∧ w.state = .active := by
  rw [namesFilter_iff]
  unfold State.activeWash
  cases s.slotNaming f with
  | none => simp
  | some d =>
    dsimp only
    cases ctx : s.ctx d with
    | none =>
      simp only [reduceCtorEq, false_iff]
      rintro ⟨⟨same, there⟩, -⟩
      cases same
      simp [ctx] at there
    | some v =>
      by_cases active : v.state = .active
      · simp only [active, if_true, Option.some.injEq, Prod.mk.injEq]
        constructor
        · rintro ⟨rfl, rfl⟩
          exact ⟨⟨rfl, ctx⟩, active⟩
        · rintro ⟨⟨rfl, there⟩, -⟩
          exact ⟨rfl, Option.some.inj (ctx.symm.trans there)⟩
      · simp only [active, if_false, reduceCtorEq, false_iff]
        rintro ⟨⟨same, there⟩, live⟩
        cases same
        exact active (Option.some.inj (ctx.symm.trans there) ▸ live)

theorem exitBody_eq (c : Slot) (w : WashContext) :
    exitBody c w = be8 c.val ++ be8 w.progress.code ++ be8 (exitBy w.progress (some .hostExit)).code ++
      be8 (exitPattern (exitBy w.progress (some .hostExit))).code := by
  unfold exitBody
  rw [exitKindFor_eq_exitBy]
  dsimp only
  rw [pattern_eq_exitPattern]

/-- A filter without an ACTIVE wash. -/
theorem activeWash_none (h : ∀ c w, NamesFilter s c w f → w.state ≠ .active) : s.activeWash f = none := by
  refine Option.eq_none_iff_forall_ne_some.2 fun ⟨c, w⟩ found => ?_
  obtain ⟨names, active⟩ := (activeWash_iff ..).1 found
  exact h c w names active

/-- Settles O43, by the context that names the filter. -/
theorem hostExitIsDecided : Obligations.HostExitIsDecided := by
  intro s op
  have passes : ∀ b, Passes s .exit [b] := fun b => op.passes rfl (Nat.le_of_ble_eq_true rfl) rfl rfl
  refine ⟨fun b none => (passes b).refuses (withFilter_no none _), fun f => ⟨fun idle => ?_, fun c w names active => ?_⟩⟩
  · refine (passes _).refuses ((withFilter_byte ..).trans ?_)
    have unnamed : (taken s .exit [filterByte f]).activeWash f = none := activeWash_none idle
    simp only [unnamed]
  · refine (passes _).grants ((withFilter_byte ..).trans ?_)
    have found : (taken s .exit [filterByte f]).activeWash f = some (c, w) := (activeWash_iff ..).2 ⟨names, active⟩
    simp only [found]
    rw [exitBody_eq, decideExit_eq (s := taken s .exit [filterByte f]) names.1 active]

end Sys2Proof.Claim

/-! Steps begin and ask for headers; CONTINUE and FREE (R77, R78, R84, R94, R95, R97, R111, R112). -/

namespace Sys2Proof.Claim

open Sys2Proof.Machine Sys2Proof.Safety

variable {s t : State} {c : Slot} {w : WashContext} {h : Header} {held rest : List Header}

/-! ### A context asks for the headers of its step (R78, R94) -/

theorem supplyNodeLost_iff (s : State) (h : Header) : s.supplyNodeLost h = true ↔ FeedLost s h := by
  cases h
  · exact Iff.rfl
  · exact Iff.rfl
  · exact iff_of_false Bool.false_ne_true id

theorem hasRoom_iff (s : State) (h : Header) : s.hasRoom h = true ↔ (s.header h).holdings.length < h.capacity :=
  decide_eq_true_iff

theorem acquire_eq (ctx : s.ctx c = some w) : s.acquire c = s.tryHeaders c (headersOf (kindAt w w.stepIndex)) := by
  unfold State.acquire
  rw [State.withCtx_some ctx, needs_eq_headersOf]
  rfl

theorem acquire_of_held (ctx : s.ctx c = some w) (all : ∀ h ∈ headersOf (kindAt w w.stepIndex), s.holds c h = true) :
    s.acquire c = enteredSetting s c w := by
  rw [acquire_eq ctx, State.tryHeaders_all all, enterSetting_eq ctx]

/-- The first header that a context lacks decides what its asking comes to. -/
theorem acquire_of_lacking (ctx : s.ctx c = some w) (needs : headersOf (kindAt w w.stepIndex) = held ++ h :: rest)
    (have_ : ∀ x ∈ held, s.holds c x = true) (lacks : s.holds c h = false) :
    (FeedLost s h → s.acquire c = exitIfActive s c .supplyLost none) ∧
    (¬ FeedLost s h → h.capacity ≤ (s.header h).holdings.length → s.acquire c = waitingFor s c h) ∧
    (¬ FeedLost s h → (s.header h).holdings.length < h.capacity → s.acquire c = (grantedHeader s c h).acquire c) := by
  have asks : s.acquire c = s.tryHeaders c (h :: rest) := by
    rw [acquire_eq ctx, needs, State.tryHeaders_held have_]
  have fed : ¬ FeedLost s h → s.supplyNodeLost h = false := fun n => Bool.eq_false_iff.2 (mt (supplyNodeLost_iff s h).1 n)
  refine ⟨fun lost => ?_, fun ok full => ?_, fun ok room => ?_⟩
  · rw [asks, State.tryHeaders_lost lacks ((supplyNodeLost_iff s h).2 lost), decideExit_eq_exitIfActive]
  · rw [asks, State.tryHeaders_full lacks (fed ok) (Bool.eq_false_iff.2 (mt (hasRoom_iff s h).1 (Nat.not_lt.2 full))),
      addWaiter_eq]
  · have granted : (s.addHolding c h).ctx c = some w := ctx
    have holds : ∀ x ∈ held ++ [h], (s.addHolding c h).holds c x = true := fun x m => by
      rw [holds_addHolding]
      rcases List.mem_append.1 m with m | m
      · rw [have_ x m, Bool.true_or]
      · simp [List.mem_singleton.1 m]
    rw [asks, State.tryHeaders_room lacks (fed ok) ((hasRoom_iff s h).2 room), ← addHolding_eq, acquire_eq granted, needs,
      List.append_cons, State.tryHeaders_held holds]

/-- A step begins: the context's fields, and then the headers (R77). -/
theorem beginStep_eq (ctx : s.ctx c = some w) (i : Nat) : s.beginStep c i = (inSlot s c (begun s w i)).acquire c := by
  unfold State.beginStep
  rw [State.modCtx_some ctx]
  rfl

theorem inSlot_ctx (s : State) (c : Slot) (w : WashContext) : (inSlot s c w).ctx c = some w := State.ctx_setCtx_same ..

theorem enteredSetting_begun (s : State) (c : Slot) (w : WashContext) (i : Nat) :
    enteredSetting (inSlot s c (begun s w i)) c (begun s w i) = settingFrom s c w i := by
  simp only [enteredSetting, settingFrom, inSlot, Vector.set_set]
  rfl

theorem grantedHeader_begun (s : State) (c : Slot) (w : WashContext) (i : Nat) (h : Header) :
    grantedHeader (inSlot s c (begun s w i)) c h = inSlot (grantedHeader s c h) c (begun (grantedHeader s c h) w i) := by
  cases h <;> rfl

/-! ### Grants (R95) -/

theorem grantOnward_idle (idle : h.capacity ≤ (s.header h).holdings.length ∨ (s.header h).waiting = []) (n : Nat) :
    s.grantOnward h n = s := by
  cases n with
  | zero => rfl
  | succ n =>
    unfold State.grantOnward
    rcases idle with full | none
    · exact if_neg (mt (hasRoom_iff s h).1 (Nat.not_lt.2 full))
    · split
      · rw [none]
      · rfl

theorem grantOnward_head (room : (s.header h).holdings.length < h.capacity) {waiters : List Slot}
    (waiting : (s.header h).waiting = c :: waiters) (n : Nat) :
    s.grantOnward h (n + 1) = ((grantedHeader s c h).acquire c).grantOnward h n := by
  rw [← addHolding_eq, State.grantOnward, if_pos ((hasRoom_iff s h).2 room), waiting]

/-- A context that asks for headers loses no holding, nor does another. -/
theorem tryHeaders_holdings (s : State) (c : Slot) (l : List Header) (g : Header) :
    (s.header g).holdings.length ≤ ((s.tryHeaders c l).header g).holdings.length := by
  induction l generalizing s with
  | nil =>
    unfold State.tryHeaders State.enterSetting State.withCtx
    split
    · exact Nat.le_of_eq (by rw [(Calm.writePattern _ _ _).header]; rfl)
    · exact Nat.le_refl _
  | cons h hs ih =>
    unfold State.tryHeaders
    split
    · exact ih s
    · split
      · unfold State.decideExit State.withCtx
        split
        · dsimp only
          split
          · rw [decideExitAs_eq, exitState_header]
            exact Nat.le_refl _
          · exact Nat.le_refl _
        · exact Nat.le_refl _
      · split
        · refine Nat.le_trans ?_ (ih _)
          rw [addHolding_header]
          split
          · rename_i e
            subst e
            simp
          · exact Nat.le_refl _
        · cases h <;> cases g <;> exact Nat.le_refl _

theorem acquire_holdings (s : State) (c : Slot) (g : Header) :
    (s.header g).holdings.length ≤ ((s.acquire c).header g).holdings.length := by
  unfold State.acquire State.withCtx
  split
  · exact tryHeaders_holdings ..
  · exact Nat.le_refl _

/-- A header is granted until it is full or nobody waits, or as often as was allowed. -/
theorem grantOnward_ends (s : State) (h : Header) (n : Nat) :
    h.capacity ≤ ((s.grantOnward h n).header h).holdings.length ∨ ((s.grantOnward h n).header h).waiting = [] ∨
      (s.header h).holdings.length + n ≤ ((s.grantOnward h n).header h).holdings.length := by
  induction n generalizing s with
  | zero => exact .inr (.inr (Nat.le_refl _))
  | succ n ih =>
    by_cases room : (s.header h).holdings.length < h.capacity
    · cases waiting : (s.header h).waiting with
      | nil =>
        rw [grantOnward_idle (.inr waiting)]
        exact .inr (.inl waiting)
      | cons c waiters =>
        rw [grantOnward_head room waiting, ← addHolding_eq]
        refine (ih _).imp_right (Or.imp_right fun longer => ?_)
        have more := acquire_holdings (s.addHolding c h) c h
        rw [addHolding_header, if_pos rfl] at more
        simp only [List.length_append, List.length_singleton] at more
        omega
    · rw [grantOnward_idle (.inl (Nat.not_lt.1 room))]
      exact .inl (Nat.not_lt.1 room)

theorem grantFreed_ends (s : State) (h : Header) :
    h.capacity ≤ ((s.grantFreed h).header h).holdings.length ∨ ((s.grantFreed h).header h).waiting = [] := by
  rcases grantOnward_ends s h h.capacity with full | none | granted
  · exact .inl full
  · exact .inr none
  · exact .inl (Nat.le_trans (Nat.le_add_left ..) granted)

/-! ### Releases (R97, R98) -/

theorem inlet_eq_inletOf (h : Header) : h.inlet = inletOf h := by cases h <;> rfl

/-- The guard of a release. -/
theorem releasable_header_iff (s : State) (c : Slot) (h : Header) (w : WashContext) :
    (s.holdsHeld c h && s.inletClosed w.filter h && w.doneWith h) = true ↔
      (∃ x ∈ (s.header h).holdings, x.slot = c ∧ x.orphan = false) ∧ (s.filter w.filter).view.get (inletOf h) = .closed ∧
        (w.state = .exiting ∨ (w.state = .active ∧ h ∉ headersOf (kindAt w w.stepIndex))) := by
  simp only [State.holdsHeld, State.inletClosed, WashContext.doneWith, needs_eq_headersOf, inlet_eq_inletOf, kindAt_stepIndex,
    Bool.and_eq_true, Bool.or_eq_true, List.any_eq_true, decide_eq_true_eq, Bool.not_eq_true', decide_eq_false_iff_not, and_assoc]

/-- A holding leaves its holder, and its supply is at stop. -/
theorem headerLeft_eq (ctx : s.ctx c = some w) (h : Header) :
    (match h.pair? with
      | some p => (s.dropHolding c h).stopSupply c p
      | none => s.dropHolding c h) = headerLeft s c w h := by
  have kept : (s.dropHolding c h).ctx c = some w := ctx
  cases h
  · exact (stopSupply_eq kept .blowers).trans (congrArg (supplyAtStop · c w .blowers) (dropHolding_eq s c .air))
  · exact (stopSupply_eq kept .pumps).trans (congrArg (supplyAtStop · c w .pumps) (dropHolding_eq s c .wash))
  · exact dropHolding_eq s c .ftw

/-- Settles O44: a step's beginning is an asking, and so the second clause gives the first. -/
theorem stepsBeginAndAskForHeaders : Obligations.StepsBeginAndAskForHeaders := by
  refine ⟨fun s c w i ctx => ?_, fun s c w ctx => ?_, fun s h => ?_, fun s c h w ctx => ?_⟩
  · have there := inSlot_ctx s c (begun s w i)
    refine ⟨fun all => ?_, fun held h rest needs have_ lacks => ?_⟩
    · rw [beginStep_eq ctx, acquire_of_held there all, enteredSetting_begun]
    · obtain ⟨lost, full, room⟩ := acquire_of_lacking there needs have_ lacks
      refine ⟨fun feed active => ?_, fun feed many => ?_, fun feed few => ?_⟩
      · rw [beginStep_eq ctx, lost (by cases h <;> exact feed)]
        unfold exitIfActive
        rw [there]
        exact if_pos active
      · rw [beginStep_eq ctx, full (by cases h <;> exact feed) many]
        rfl
      · rw [beginStep_eq ctx, room (by cases h <;> exact feed) few, beginStep_eq (s := grantedHeader s c h) ctx,
          grantedHeader_begun]
  · exact ⟨beginStep_eq ctx, acquire_of_held ctx, fun held h rest => acquire_of_lacking ctx⟩
  · exact ⟨rfl, fun n idle => grantOnward_idle idle n, fun n c waiters room waiting => grantOnward_head room waiting n,
      grantFreed_ends s h⟩
  · have guard := releasable_header_iff s c h w
    unfold State.releaseHolding
    rw [State.withCtx_some ctx]
    refine ⟨fun yes => (if_pos (guard.2 yes)).trans ?_, fun no => if_neg (mt guard.1 no)⟩
    have left := headerLeft_eq ctx h
    cases h <;> exact congrArg (State.grantFreed · _) left

/-! ### What asking for headers keeps -/

/-- Asking for headers and granting them keep the step and the commitments of every context, and write neither notices nor
records nor the queue. -/
structure AsksOnly (s t : State) : Prop where
  contexts : ∀ c, (t.ctx c).map (fun w => (w.profile, w.stepIndex, w.tankRemaining, w.basinRemaining)) =
    (s.ctx c).map fun w => (w.profile, w.stepIndex, w.tankRemaining, w.basinRemaining)
  records : t.wr = s.wr
  notices : t.nu = s.nu
  queue   : t.wq = s.wq
  tank    : t.ra.tankTotal = s.ra.tankTotal
  basin   : t.ra.basinTotal = s.ra.basinTotal

namespace AsksOnly

variable {u : State}

theorem refl (s : State) : AsksOnly s s := ⟨fun _ => rfl, rfl, rfl, rfl, rfl, rfl⟩

theorem trans (x : AsksOnly s t) (y : AsksOnly t u) : AsksOnly s u :=
  ⟨fun c => (y.contexts c).trans (x.contexts c), y.records.trans x.records, y.notices.trans x.notices, y.queue.trans x.queue,
    y.tank.trans x.tank, y.basin.trans x.basin⟩

/-- A context is written with the step and the commitments that it had. -/
theorem contexts_set {v : WashContext} (ctx : s.ctx c = some w)
    (written : t.ss.contexts = s.ss.contexts.set c.val (some v))
    (same : (v.profile, v.stepIndex, v.tankRemaining, v.basinRemaining) =
      (w.profile, w.stepIndex, w.tankRemaining, w.basinRemaining)) (d : Slot) :
    (t.ctx d).map (fun w => (w.profile, w.stepIndex, w.tankRemaining, w.basinRemaining)) =
      (s.ctx d).map fun w => (w.profile, w.stepIndex, w.tankRemaining, w.basinRemaining) := by
  by_cases e : d = c
  · subst e
    rw [ctx_written written, ctx]
    exact congrArg some same
  · have other : t.ctx d = s.ctx d := by
      have := State.setCtx_ctx_other s e (some v)
      rwa [show t.ctx d = (s.setCtx c (some v)).ctx d by simp only [State.ctx, State.setCtx, written]]
    rw [other]

theorem enterSetting (s : State) (c : Slot) : AsksOnly s (s.enterSetting c) := by
  cases ctx : s.ctx c with
  | none =>
    unfold State.enterSetting
    rw [State.withCtx_none ctx]
    exact refl s
  | some w =>
    rw [enterSetting_eq ctx]
    exact ⟨contexts_set ctx (Eq.refl (s.ss.contexts.set c.val (some _))) rfl, rfl, rfl, rfl, rfl, rfl⟩

theorem decideExit (s : State) (c : Slot) (x : Option FaultCause) (v : Option Valve) : AsksOnly s (s.decideExit c x v) := by
  cases ctx : s.ctx c with
  | none =>
    rw [State.decideExit_inactive fun w h => by rw [ctx] at h; cases h]
    exact refl s
  | some w =>
    by_cases active : w.state = .active
    · rw [State.decideExit_active ctx active, decideExitAs_eq]
      exact ⟨contexts_set ctx (Eq.refl (s.ss.contexts.set c.val (some _))) rfl, rfl, rfl, rfl, rfl, rfl⟩
    · rw [State.decideExit_inactive fun v h => by rw [ctx] at h; exact Option.some.inj h ▸ active]
      exact refl s

theorem addHolding (s : State) (c : Slot) (h : Header) : AsksOnly s (s.addHolding c h) :=
  ⟨fun _ => rfl, rfl, rfl, rfl, rfl, rfl⟩

theorem dropHolding (s : State) (c : Slot) (h : Header) : AsksOnly s (s.dropHolding c h) :=
  ⟨fun _ => rfl, rfl, rfl, rfl, rfl, rfl⟩

theorem tryHeaders (s : State) (c : Slot) (l : List Header) : AsksOnly s (s.tryHeaders c l) := by
  induction l generalizing s with
  | nil => exact enterSetting s c
  | cons h hs ih =>
    unfold State.tryHeaders
    split
    · exact ih s
    · split
      · exact decideExit ..
      · split
        · exact (addHolding s c h).trans (ih _)
        · exact ⟨fun _ => rfl, rfl, rfl, rfl, rfl, rfl⟩

theorem acquire (s : State) (c : Slot) : AsksOnly s (s.acquire c) := by
  unfold State.acquire State.withCtx
  split
  · exact tryHeaders ..
  · exact refl s

theorem grantOnward (s : State) (h : Header) (n : Nat) : AsksOnly s (s.grantOnward h n) := by
  induction n generalizing s with
  | zero => exact refl s
  | succ n ih =>
    unfold State.grantOnward
    split
    · split
      · exact refl s
      · exact ((addHolding ..).trans (acquire ..)).trans (ih _)
    · exact refl s

theorem freeHeader (s : State) (c : Slot) (h : Header) : AsksOnly s (s.freeHeader c h) := by
  unfold State.freeHeader
  split
  · exact (dropHolding ..).trans (grantOnward ..)
  · exact refl s

/-- A context stays, with its step and its commitments. -/
theorem ctx (x : AsksOnly s t) (h : s.ctx c = some w) :
    ∃ v, t.ctx c = some v ∧ v.profile = w.profile ∧ v.stepIndex = w.stepIndex ∧ v.tankRemaining = w.tankRemaining ∧
      v.basinRemaining = w.basinRemaining := by
  have same := x.contexts c
  rw [h] at same
  obtain ⟨v, there, e⟩ := Option.map_eq_some_iff.1 same
  simp only [Prod.mk.injEq] at e
  obtain ⟨profile, index, tank, basin⟩ := e
  exact ⟨v, there, profile, index, tank, basin⟩

end AsksOnly

/-! ### CONTINUE (R84) -/

theorem continueBody_eq {v : WashContext} (ctx : s.ctx c = some v) :
    s.continueBody c = be8 c.val ++ be8 v.stepIndex ++ be8 (kindCode (kindAt v v.stepIndex)) ++ be8 v.phase.code := by
  unfold State.continueBody
  rw [ctx]
  rfl

/-- Settles O45, by the step that the context stands at after its beginning. -/
theorem continueBeginsTheNextStep : Obligations.ContinueBeginsTheNextStep := by
  intro s op
  have passes : ∀ b, Passes s .continueWash [b] := fun b => op.passes rfl (Nat.le_of_ble_eq_true rfl) rfl rfl
  refine ⟨fun b none => (passes b).refuses (withFilter_no none _), fun f => ⟨fun idle => ?_, fun c w names active hold => ?_⟩⟩
  · refine (passes _).refuses ((withFilter_byte ..).trans ?_)
    cases found : (taken s .continueWash [filterByte f]).activeWash f with
    | none => rfl
    | some x =>
      obtain ⟨names, active⟩ := (activeWash_iff ..).1 found
      exact if_neg fun hold => idle x.1 x.2 names ⟨active, hold⟩
  · have found : (taken s .continueWash [filterByte f]).activeWash f = some (c, w) := (activeWash_iff ..).2 ⟨names, active⟩
    have ctx : (taken s .continueWash [filterByte f]).ctx c = some w := names.1
    obtain ⟨v, there, profile, index, -⟩ := (AsksOnly.acquire (inSlot (taken s .continueWash [filterByte f]) c
      (begun (taken s .continueWash [filterByte f]) w (w.stepIndex + 1))) c).ctx (inSlot_ctx ..)
    rw [← beginStep_eq ctx] at there
    refine ⟨v, there, (passes _).grants ((withFilter_byte ..).trans ?_)⟩
    simp only [found]
    refine (if_pos hold).trans ?_
    rw [continueBody_eq there]
    unfold kindAt
    rw [profile, index]
    rfl

/-! ### FREE (R111, R112) -/

theorem freeBody_eq (s : State) (c : Slot) (w : WashContext) :
    s.freeBody c w = be8 c.val ++ be8 (w.filter.val + 1) ++
      be8 ((if s.holds c .air then 1 else 0) + (if s.holds c .wash then 2 else 0) + if s.holds c .ftw then 4 else 0) ++
      be16 w.tankRemaining.toNat ++ be16 w.basinRemaining.toNat := by
  unfold State.freeBody State.headersHeld
  cases s.holds c .air <;> cases s.holds c .wash <;> cases s.holds c .ftw <;> rfl

/-- What a freed context leaves behind. -/
theorem freedState_spec (s : State) (c : Slot) (w : WashContext) :
    (freedState s c w).ctx c = none ∧
      (∀ h, (freedState s c w).holds c h = false ∧ c ∉ ((freedState s c w).header h).waiting) ∧
      (freedState s c w).ra.tankTotal = s.ra.tankTotal - w.tankRemaining ∧
      (freedState s c w).ra.basinTotal = s.ra.basinTotal - w.basinRemaining ∧
      (freedState s c w).wr = s.wr ∧ (freedState s c w).nu = s.nu ∧ (freedState s c w).wq = s.wq := by
  refine ⟨ctx_written rfl, fun h => ?_, rfl, rfl, rfl, rfl, rfl⟩
  cases h <;> simp [freedState, State.holds, State.header, HeaderTable.get]

theorem freeForced_spec (ctx : s.ctx c = some w) :
    (s.freeForced c).ctx c = none ∧ (∀ h, (s.freeForced c).holds c h = false ∧ c ∉ ((s.freeForced c).header h).waiting) ∧
      (s.freeForced c).ra.tankTotal = s.ra.tankTotal - w.tankRemaining ∧
      (s.freeForced c).ra.basinTotal = s.ra.basinTotal - w.basinRemaining ∧
      (s.freeForced c).wr = s.wr ∧ (s.freeForced c).nu = s.nu ∧ (s.freeForced c).wq = s.wq := by
  have asks := ((AsksOnly.freeHeader s c .air).trans (AsksOnly.freeHeader _ c .wash)).trans (AsksOnly.freeHeader _ c .ftw)
  obtain ⟨v, there, -, -, tank, basin⟩ := asks.ctx ctx
  obtain ⟨free, bare, total, volume, records, notices, queue⟩ :=
    freedState_spec (((s.freeHeader c .air).freeHeader c .wash).freeHeader c .ftw) c v
  unfold State.freeForced
  rw [freeOrphan_eq there]
  exact ⟨free, bare, by rw [total, asks.tank, tank], by rw [volume, asks.basin, basin], records.trans asks.records,
    notices.trans asks.notices, queue.trans asks.queue⟩

theorem dropHolding_of_bare (bare : s.holds c h = false) : s.dropHolding c h = s := by
  have others : (s.header h).holdings.filter (fun x => x.slot != c) = (s.header h).holdings :=
    List.filter_eq_self.2 fun x m => by simpa [State.holds] using List.any_eq_false.1 bare x m
  unfold State.dropHolding
  rw [others]
  cases h <;> rfl

/-- A header that nobody awaits is freed, and not granted onward. -/
theorem freeHeader_idle (none : (s.header h).waiting = []) : s.freeHeader c h = s.dropHolding c h := by
  unfold State.freeHeader
  split
  · have still : ((s.dropHolding c h).header h).waiting = [] := by cases h <;> exact none
    exact grantOnward_idle (.inr still) _
  · rename_i bare
    exact (dropHolding_of_bare (Bool.eq_false_iff.2 bare)).symm

/-- A freed context's filter is due for classification when it is in UNKNOWN on a node that is not LOST. -/
theorem freedState_eq (s : State) (c : Slot) (w : WashContext) :
    freedState s c w = { s with
      ss := { contexts := s.ss.contexts.set c.val none }
      ra := (freedState s c w).ra
      ft := { records := s.ft.records.set w.filter.val { s.filter w.filter with
        classifyDue := (s.filter w.filter).classifyDue ||
          (decide ((s.filter w.filter).state = .unknown) && !(s.link (.filter w.filter)).lost) } } } := by
  have same : s.ft.records.set w.filter.val (s.filter w.filter) = s.ft.records := Vector.set_getElem_self ..
  unfold freedState
  by_cases due : (s.filter w.filter).state = .unknown ∧ (s.link (.filter w.filter)).lost = false
  · have all : (decide ((s.filter w.filter).state = .unknown) && !(s.link (.filter w.filter)).lost) = true := by
      simp [due]
    rw [if_pos due, all, Bool.or_true]
  · have none : (decide ((s.filter w.filter).state = .unknown) && !(s.link (.filter w.filter)).lost) = false := by
      simpa [← Bool.not_eq_true] using due
    simp only [if_neg due, none, Bool.or_false, same]

/-- FREE when nobody awaits a header. -/
theorem freeForced_idle (ctx : s.ctx c = some w) (idle : ∀ h, (s.header h).waiting = []) :
    s.freeForced c = { s with
      ss := { contexts := s.ss.contexts.set c.val none }
      ra := { s.ra with
        headers :=
          ⟨⟨s.ra.headers.air.holdings.filter fun x => x.slot != c, []⟩,
            ⟨s.ra.headers.wash.holdings.filter fun x => x.slot != c, []⟩,
            ⟨s.ra.headers.ftw.holdings.filter fun x => x.slot != c, []⟩⟩
        tankTotal := s.ra.tankTotal - w.tankRemaining
        basinTotal := s.ra.basinTotal - w.basinRemaining }
      ft := { records := s.ft.records.set w.filter.val { s.filter w.filter with
        classifyDue := (s.filter w.filter).classifyDue ||
          (decide ((s.filter w.filter).state = .unknown) && !(s.link (.filter w.filter)).lost) } } } := by
  have air : s.ra.headers.air.waiting = [] := idle .air
  have wash : s.ra.headers.wash.waiting = [] := idle .wash
  have ftw : s.ra.headers.ftw.waiting = [] := idle .ftw
  have dropped : ((((s.freeHeader c .air).freeHeader c .wash).freeHeader c .ftw)) =
      ((s.dropHolding c .air).dropHolding c .wash).dropHolding c .ftw := by
    rw [freeHeader_idle (h := .air) air, freeHeader_idle (s := s.dropHolding c .air) (h := .wash) wash,
      freeHeader_idle (s := (s.dropHolding c .air).dropHolding c .wash) (h := .ftw) ftw]
  have there : (((s.dropHolding c .air).dropHolding c .wash).dropHolding c .ftw).ctx c = some w := ctx
  unfold State.freeForced
  have ra : (freedState (((s.dropHolding c .air).dropHolding c .wash).dropHolding c .ftw) c w).ra = { s.ra with
      headers :=
        ⟨⟨s.ra.headers.air.holdings.filter fun x => x.slot != c, []⟩,
          ⟨s.ra.headers.wash.holdings.filter fun x => x.slot != c, []⟩,
          ⟨s.ra.headers.ftw.holdings.filter fun x => x.slot != c, []⟩⟩
      tankTotal := s.ra.tankTotal - w.tankRemaining
      basinTotal := s.ra.basinTotal - w.basinRemaining } := by
    simp only [freedState, State.dropHolding, State.setHeader, State.header, HeaderTable.set, HeaderTable.get, List.filter_filter,
      Bool.and_self, air, wash, ftw, List.filter_nil]
  rw [dropped, freeOrphan_eq there, freedState_eq, ra]
  rfl

/-- Settles O46, from what freeing does to the context and what granting onward leaves. -/
theorem freeReleasesAnOrphan : Obligations.FreeReleasesAnOrphan := by
  intro s op
  have passes : ∀ b, Passes s .free [b] := fun b => op.passes rfl (Nat.le_of_ble_eq_true rfl) rfl rfl
  have named : ∀ (c : Slot) g, withSlot [slotByte c] g = g c := fun c g =>
    withSlot_some g ((BitVec.toNat_ofNat _ _).trans (Nat.mod_eq_of_lt (by omega)))
  refine ⟨fun b above => (passes b).refuses (withSlot_none (body := [b]) _ above), fun c => ⟨fun other => ?_, fun w ctx orphan => ?_⟩⟩
  · refine (passes _).refuses ((named ..).trans ?_)
    cases ctx : (taken s .free [slotByte c]).ctx c with
    | none => rfl
    | some w => exact if_neg (other w ctx)
  · have there : (taken s .free [slotByte c]).ctx c = some w := ctx
    have freed : exec (.free [slotByte c]) s = .next (granted ((taken s .free [slotByte c]).freeForced c) .free
        ((taken s .free [slotByte c]).freeBody c w)) := by
      refine (passes _).grants ((named ..).trans ?_)
      simp only [there]
      exact if_pos orphan
    rw [freeBody_eq] at freed
    refine ⟨⟨_, freed, freeForced_spec there⟩, fun idle => freed.trans ?_⟩
    rw [freeForced_idle there idle]
    rfl

end Sys2Proof.Claim

/-! Profiles, the configuration, TUNE and MODE (R70, R72, R90, R178, R180, R181). -/

namespace Sys2Proof.Claim

open Sys2Proof.Machine Sys2Proof.Safety

variable {s : State} {body : List Byte}

/-! ### Replies on profiles -/

theorem be8_toNat (b : Byte) : be8 b.toNat = [b] := by
  unfold be8
  rw [BitVec.ofNat_toNat, BitVec.setWidth_eq]

theorem validityBytes_eq (steps : List ProfileStep) : validityBytes steps = validityWire steps := by
  unfold validityBytes validityWire profileValid
  cases failingIndex steps <;> rfl

theorem demandBytes_eq (rate : Nat) (steps : List ProfileStep) : demandBytes rate steps = demandWire rate steps := by
  unfold demandBytes demandWire profileValid
  cases failingIndex steps <;> rfl

theorem profileReadBody_eq (s : State) (b : Byte) (steps : List ProfileStep) :
    s.profileReadBody b.toNat steps =
      [b] ++ be8 steps.length ++ steps.flatMap stepWire ++ validityWire steps ++ demandWire s.plant.ftwRate steps := by
  unfold State.profileReadBody
  rw [be8_toNat, validityBytes_eq, demandBytes_eq]
  rfl

/-! ### The body of PROFILE-WRITE (R70) -/

theorem kindOfCode?_eq (n : Nat) : kindOfCode? n = if n ≤ 6 then some (wireKind n) else none := by
  match n with
  | 0 | 1 | 2 | 3 | 4 | 5 | 6 => rfl
  | n + 7 => exact (if_neg (by omega)).symm

theorem inRange_iff (lo hi n : Nat) : inRange lo hi n = true ↔ lo ≤ n ∧ n ≤ hi := by simp [inRange]

theorem stepAt?_of_ok {i : Nat} (ok : WireStepOk body i) : stepAt? body i = some (wireStep body i) := by
  obtain ⟨kind, low, high, target, fallback, level, hold⟩ := ok
  unfold stepAt?
  rw [kindOfCode?_eq, if_pos kind]
  refine if_pos ?_
  simp [inRange, low, high, target, fallback, level, hold]

theorem stepAt?_of_bad {i : Nat} (bad : ¬ WireStepOk body i) : stepAt? body i = none := by
  unfold stepAt?
  rw [kindOfCode?_eq]
  by_cases kind : u8 body i ≤ 6
  · rw [if_pos kind]
    refine if_neg fun ok => bad ?_
    simp only [Bool.and_eq_true, decide_eq_true_eq, inRange_iff] at ok
    obtain ⟨⟨⟨⟨⟨low, high⟩, target⟩, fallback⟩, level⟩, hold⟩ := ok
    exact ⟨kind, low, high, target, fallback, level, hold⟩
  · rw [if_neg kind]

theorem stepsFrom?_of_ok (n i : Nat) (ok : ∀ j, j < n → WireStepOk body (i + 10 * j)) :
    stepsFrom? body n i = some ((List.range n).map fun j => wireStep body (i + 10 * j)) := by
  induction n generalizing i with
  | zero => rfl
  | succ n ih =>
    have later : stepsFrom? body n (i + 10) = some ((List.range n).map fun j => wireStep body (i + 10 + 10 * j)) :=
      ih (i + 10) fun j inside => by
        rw [show i + 10 + 10 * j = i + 10 * (j + 1) by omega]
        exact ok (j + 1) (by omega)
    have first : stepAt? body i = some (wireStep body i) := stepAt?_of_ok (ok 0 (by omega))
    unfold stepsFrom?
    rw [first, later, List.range_succ_eq_map, List.map_cons, List.map_map]
    have shift : ((fun j => wireStep body (i + 10 * j)) ∘ Nat.succ) = fun j => wireStep body (i + 10 + 10 * j) := by
      funext j
      exact congrArg (wireStep body) (by simp only [Nat.succ_eq_add_one]; omega)
    rw [shift]
    rfl

theorem stepsFrom?_of_bad (n i : Nat) {j : Nat} (inside : j < n) (bad : ¬ WireStepOk body (i + 10 * j)) :
    stepsFrom? body n i = none := by
  induction n generalizing i j with
  | zero => omega
  | succ n ih =>
    unfold stepsFrom?
    cases j with
    | zero => rw [show stepAt? body i = none from stepAt?_of_bad bad]
    | succ j =>
      have later : stepsFrom? body n (i + 10) = none :=
        ih (i + 10) (j := j) (by omega) (by rwa [show i + 10 + 10 * j = i + 10 * (j + 1) by omega])
      rw [later]
      cases stepAt? body i <;> rfl

theorem profileWriteBody?_of_ok (ok : ProfileWireOk body) {n : Fin 8} (number : u8 body 0 = n.val) :
    profileWriteBody? body = some (n, (List.range (u8 body 1)).map fun i => wireStep body (2 + 10 * i)) := by
  obtain ⟨-, low, high, steps⟩ := ok
  have named : u8 body 0 < 8 := by omega
  have same : (⟨u8 body 0, named⟩ : Fin 8) = n := Fin.ext number
  unfold profileWriteBody?
  rw [dif_pos named, if_pos ((inRange_iff ..).2 ⟨low, high⟩), stepsFrom?_of_ok _ 2 steps, Option.map_some, same]

theorem profileWriteBody?_of_bad (bad : ¬ ProfileWireOk body) : profileWriteBody? body = none := by
  unfold profileWriteBody?
  by_cases named : u8 body 0 < 8
  · rw [dif_pos named]
    by_cases count : inRange 3 12 (u8 body 1) = true
    · rw [if_pos count]
      obtain ⟨low, high⟩ := (inRange_iff ..).1 count
      have some_bad : ∃ j, j < u8 body 1 ∧ ¬ WireStepOk body (2 + 10 * j) := by
        refine Classical.byContradiction fun all => bad ⟨by omega, low, high, fun j inside => ?_⟩
        exact Classical.byContradiction fun fails => all ⟨j, inside, fails⟩
      obtain ⟨j, inside, fails⟩ := some_bad
      rw [stepsFrom?_of_bad _ 2 inside fails, Option.map_none]
    · rw [if_neg count]
  · rw [dif_neg named]

/-- Settles O36: what the body names, and what it may not. -/
theorem profilesAreReadAndWritten : Obligations.ProfilesAreReadAndWritten := by
  intro s ready
  have read : ∀ b, Passes s .profileRead [b] := fun b => ⟨ready, rfl, Nat.le_of_ble_eq_true rfl, rfl⟩
  refine ⟨fun b above => (read b).refuses ?_, fun b steps held => (read b).grants ?_, fun setup body length fits => ?_⟩
  · have absent : (taken s .profileRead [b]).profile? (u8 [b] 0) = none := Vector.getElem?_eq_none above
    simp only [absent]
  · have held : (taken s .profileRead [b]).profile? (u8 [b] 0) = some steps := held
    simp only [held]
    exact congrArg (accept _) (profileReadBody_eq _ b steps)
  · have passes : Passes s .profileWrite body := ⟨ready, length, fits, decide_eq_true setup⟩
    refine ⟨fun bad => passes.refuses ?_, fun ok n number => passes.grants ?_⟩
    · rw [profileWriteBody?_of_bad bad]
    · rw [profileWriteBody?_of_ok ok number]
      dsimp only
      unfold State.profileWriteBody
      rw [validityBytes_eq, demandBytes_eq]
      rfl

/-! ### Rows of fields -/

/-- A body is a row of fields of the given widths. -/
structure HasFields (b : List Byte) (fields : List (List Byte)) (widths : List Nat) : Prop where
  row    : b = fields.flatten
  widths : fields.map List.length = widths

namespace HasFields

variable {b field : List Byte} {fields : List (List Byte)} {widths : List Nat}

theorem length (h : HasFields b fields widths) {n : Nat} (total : widths.sum = n) : b.length = n := by
  rw [h.row, List.length_flatten, h.widths, total]

/-- A field stands behind the fields before it. -/
theorem at_ (h : HasFields b fields widths) (i : Nat) (at_i : fields[i]? = some field) {pos : Nat}
    (place : (widths.take i).sum = pos) : HasAt b pos field := by
  obtain ⟨inside, rfl⟩ := List.getElem?_eq_some_iff.1 at_i
  have before : (fields.take i).flatten.length = pos := by
    rw [List.length_flatten, List.map_take, h.widths, place]
  have split : b = (fields.take i).flatten ++ (fields[i] ++ (fields.drop (i + 1)).flatten) := by
    rw [h.row, ← List.flatten_cons, ← List.drop_eq_getElem_cons inside, ← List.flatten_append, List.take_append_drop]
  have first : HasAt (fields[i] ++ (fields.drop (i + 1)).flatten) 0 fields[i] := by
    unfold HasAt
    rw [List.drop_zero, List.take_append_of_le_length (Nat.le_refl _), List.take_length]
  rw [split]
  exact first.append_left (by rw [before, Nat.add_zero])

/-- The first field stands at the beginning. -/
theorem first (h : HasFields b (field :: fields) widths) : HasAt b 0 field := h.at_ 0 rfl List.sum_nil

/-- A part of a field stands at its place in the field. -/
theorem within (h : HasFields b fields widths) (i : Nat) {x : List Byte} (at_i : fields[i]? = some x) {k pos : Nat}
    (part : HasAt x k field) (fits : k + field.length ≤ x.length) (place : (widths.take i).sum + k = pos) :
    HasAt b pos field := by
  have whole := h.at_ i at_i rfl
  unfold HasAt at *
  have shorter : field = ((b.drop (widths.take i).sum).take x.length |>.drop k).take field.length := by rw [whole, part]
  rw [List.drop_take, List.take_take, List.drop_drop, place, Nat.min_eq_left (by omega)] at shorter
  exact shorter.symm

theorem fits (h : HasFields b fields widths) (i : Nat) (at_i : fields[i]? = some field) :
    (widths.take i).sum + field.length ≤ b.length := by
  obtain ⟨inside, rfl⟩ := List.getElem?_eq_some_iff.1 at_i
  have before : (fields.take i).flatten.length = (widths.take i).sum := by rw [List.length_flatten, List.map_take, h.widths]
  have split : b = (fields.take i).flatten ++ (fields[i] ++ (fields.drop (i + 1)).flatten) := by
    rw [h.row, ← List.flatten_cons, ← List.drop_eq_getElem_cons inside, ← List.flatten_append, List.take_append_drop]
  rw [split, List.length_append, List.length_append, before]
  omega

/-- A field of a field that is a row itself. -/
theorem sub (h : HasFields b fields widths) (i : Nat) {x : List Byte} (at_i : fields[i]? = some x) {inner : List (List Byte)}
    {innerWidths : List Nat} (row : HasFields x inner innerWidths) (j : Nat) (at_j : inner[j]? = some field) {pos : Nat}
    (place : (widths.take i).sum + (innerWidths.take j).sum = pos) : HasAt b pos field :=
  h.within i at_i (row.at_ j at_j rfl) (row.fits j at_j) place

end HasFields

theorem length_be8 (n : Nat) : (be8 n).length = 1 := rfl
theorem length_be16 (n : Nat) : (be16 n).length = 2 := rfl
theorem length_be32 (n : Nat) : (be32 n).length = 4 := rfl
theorem length_opt8 (x : Option Nat) : (opt8 x).length = 1 := by cases x <;> rfl
theorem length_opt16 (x : Option Nat) : (opt16 x).length = 2 := by cases x <;> rfl
theorem length_opt32 (x : Option Nat) : (opt32 x).length = 4 := by cases x <;> rfl

/-! ### CONFIG-READ (R180) -/

/-- The 43 bytes of the plant configuration and the enables. -/
theorem plantConfigBody_fields (s : State) :
    HasFields s.plantConfigBody
      [be8 s.plant.filterCount, be8 s.plant.maxOut, opt16 s.plant.maxFilterFlow, opt16 s.plant.fallbackFlow,
        be16 s.plant.flowTimeout, be16 s.plant.rotationSpacing, opt16 s.plant.tankReserve, opt16 s.plant.basinReserve,
        be16 s.plant.ftwRate, be16 s.plant.scanPeriod, be8 s.plant.replyWindow, be8 s.plant.missLimit,
        be16 s.plant.travelLimit, be16 s.plant.headerWait, be16 s.plant.startConfirm, be16 s.plant.rampWindow,
        be8 s.plant.flowTolerance, be16 s.plant.holdLimit, be16 s.plant.ripenSustain, be16 s.plant.turbidityConfirm,
        be16 s.plant.headlossConfirm, opt16 s.plant.tankThreshold, opt16 s.plant.basinThreshold,
        be16 s.cs.working.enables.toNat]
      [1, 1, 2, 2, 2, 2, 2, 2, 2, 2, 1, 1, 2, 2, 2, 2, 1, 2, 2, 2, 2, 2, 2, 2] where
  row := by
    unfold State.plantConfigBody PlantConfig.bytes
    simp only [List.flatten_cons, List.flatten_nil, List.append_assoc, List.append_nil]
  widths := by simp only [List.map_cons, List.map_nil, length_be8, length_be16, length_opt16]

theorem plantLayout_at (s : State) : ∀ x ∈ plantLayout s.plant, HasAt s.plantConfigBody x.1 x.2 := by
  have h := plantConfigBody_fields s
  unfold plantLayout
  simp only [List.cons_append, List.nil_append, List.forall_mem_cons]
  exact ⟨h.first, h.at_ 1 rfl rfl, h.at_ 2 rfl rfl, h.at_ 3 rfl rfl, h.at_ 4 rfl rfl, h.at_ 5 rfl rfl, h.at_ 6 rfl rfl,
    h.at_ 7 rfl rfl, h.at_ 8 rfl rfl, h.at_ 9 rfl rfl, h.at_ 10 rfl rfl, h.at_ 11 rfl rfl, h.at_ 12 rfl rfl, h.at_ 13 rfl rfl,
    h.at_ 14 rfl rfl, h.at_ 15 rfl rfl, h.at_ 16 rfl rfl, h.at_ 17 rfl rfl, h.at_ 18 rfl rfl, h.at_ 19 rfl rfl,
    h.at_ 20 rfl rfl, h.at_ 21 rfl rfl, h.at_ 22 rfl rfl, nofun⟩

theorem filterConfigBody_eq (s : State) (f : FilterId) :
    s.filterConfigBody f =
      (match (s.cs.working.filters[f.val]).settings with
        | some x => settingsWire x
        | none => List.replicate 13 0xFF) ++ be16 (s.cs.working.filters[f.val]).watchMask.toNat ++
        be16 (s.cs.working.filters[f.val]).tripMask.toNat ++
        be8 (if (s.cs.working.filters[f.val]).settings.isSome then 1 else 0) := by
  unfold State.filterConfigBody
  rw [show s.filterConfig f = s.cs.working.filters[f.val] from rfl]
  dsimp only
  cases (s.cs.working.filters[f.val]).settings <;> rfl

/-! ### Configuration writes (R90, R180) -/

theorem settingsBody?_of_ok (ok : SettingsOk body) : settingsBody? body = some (wireSettings body) := by
  obtain ⟨profile, ⟨h1, h2⟩, ⟨b1, b2⟩, ⟨r1, r2⟩, ⟨l1, l2⟩, volume, flag⟩ := ok
  refine if_pos ?_
  simp [inRange, profile, h1, h2, b1, b2, r1, r2, l1, l2, volume, flag]

theorem settingsBody?_of_bad (bad : ¬ SettingsOk body) : settingsBody? body = none := by
  refine if_neg fun ok => bad ?_
  simp only [Bool.and_eq_true, decide_eq_true_eq, inRange_iff, and_assoc] at ok
  obtain ⟨profile, h1, h2, b1, b2, r1, r2, l1, l2, volume, flag⟩ := ok
  exact ⟨profile, ⟨h1, h2⟩, ⟨b1, b2⟩, ⟨r1, r2⟩, ⟨l1, l2⟩, volume, flag⟩

theorem plantBody?_guard (b : List Byte) :
    (inRange 2 20 (u8 b 0) && inRange 1 4 (u8 b 1) && inRange 50 2000 (u16 b 2) && u16 b 4 ≤ 20000 &&
      inRange 10 900 (u16 b 6) && u16 b 8 ≤ 7200 && u16 b 10 ≤ 9999 && u16 b 12 ≤ 9999 &&
      inRange 10 500 (u16 b 14) && (inRange 100 1000 (u16 b 16) && u16 b 16 % 100 = 0) &&
      inRange 1 20 (u8 b 18) && inRange 2 15 (u8 b 19) && inRange 10 240 (u16 b 20) && inRange 60 3600 (u16 b 22) &&
      inRange 5 60 (u16 b 24) && inRange 20 300 (u16 b 26) && u8 b 28 ≤ 20 && inRange 60 7200 (u16 b 29) &&
      inRange 10 900 (u16 b 31) && inRange 10 600 (u16 b 33) && inRange 10 600 (u16 b 35) &&
      u16 b 37 ≤ 9999 && u16 b 39 ≤ 9999) = true ↔ PlantOk b := by
  simp only [PlantOk, inRange_iff, Bool.and_eq_true, decide_eq_true_eq, and_assoc]

theorem plantBody?_of_ok (ok : PlantOk body) : plantBody? body = some (wirePlant body) := if_pos ((plantBody?_guard body).2 ok)

theorem plantBody?_of_bad (bad : ¬ PlantOk body) : plantBody? body = none := if_neg (mt (plantBody?_guard body).1 bad)

theorem replaceWorking_eq (t : State) (w : WorkingConfig) : t.replaceWorking w = reconfigured t w := by
  unfold State.replaceWorking reconfigured
  by_cases same : w.plant.maxFilterFlow = t.plant.maxFilterFlow ∧ w.plant.fallbackFlow = t.plant.fallbackFlow
  · rw [if_pos same]
    exact if_pos (decide_eq_true same)
  · rw [if_neg same]
    exact if_neg (ne_true_of_eq_false (decide_eq_false same))

theorem readConfig_of_none {n : Nat} (above : 20 < n) (t : State) : t.readConfig n = refuse .range := by
  unfold State.readConfig
  rw [if_neg (by omega), filterOfNumber_none (.inr above)]

theorem readConfig_filter (t : State) (f : FilterId) : t.readConfig (u8 [filterByte f] 0) = accept t (t.filterConfigBody f) := by
  unfold State.readConfig
  rw [u8_filterByte, if_neg (by omega), filterOfNumber_some]

/-- Settles O37: what is read, and what each write replaces. -/
theorem configurationIsReadAndReplaced : Obligations.ConfigurationIsReadAndReplaced := by
  intro s ready
  have read : ∀ b, Passes s .configRead [b] := fun b => ⟨ready, rfl, Nat.le_of_ble_eq_true rfl, rfl⟩
  refine ⟨fun b above => (read b).refuses (readConfig_of_none above _),
    ⟨s.plantConfigBody, (read 0).grants rfl, (plantConfigBody_fields s).length rfl, plantLayout_at s,
      (plantConfigBody_fields s).at_ 23 rfl rfl⟩, fun f => ?_, fun setup => ⟨fun body length => ?_, fun body length => ?_, ?_⟩⟩
  · refine (read _).grants ((readConfig_filter _ f).trans ?_)
    rw [filterConfigBody_eq]
    rfl
  · have passes : Passes s .filterConfig body := ⟨ready, length, by omega, decide_eq_true setup⟩
    have named : ∀ f : FilterId, u8 body 0 = f.val + 1 → ∀ g, withFilter body g = g f := fun f number g => withFilter_some g number
    refine ⟨fun wrong => passes.refuses ?_, fun f number ok => passes.grants ((named f number _).trans ?_)⟩
    · rcases wrong with none | bad
      · exact withFilter_none _ none
      · rw [settingsBody?_of_bad bad]
        unfold Machine.withFilter
        cases filterOfNumber? (u8 body 0) <;> rfl
    · rw [settingsBody?_of_ok ok]
      rfl
  · have passes : Passes s .plantConfig body := ⟨ready, length, by omega, decide_eq_true setup⟩
    refine ⟨fun bad => passes.refuses ?_, fun ok => passes.grants ?_⟩
    · rw [plantBody?_of_bad bad]
    · rw [plantBody?_of_ok ok]
      exact congrArg (accept · []) (replaceWorking_eq ..)
  · have passes : Passes s .discard [] := ⟨ready, rfl, Nat.le_of_ble_eq_true rfl, decide_eq_true setup⟩
    refine passes.grants (congrArg (accept · []) ((replaceWorking_eq ..).trans ?_))
    have store : (taken s .discard []).cs.store = s.cs.store := rfl
    rw [store]
    cases s.cs.store <;> rfl

/-! ### TUNE (R90) -/

/-- Settles O38, in the order of the tests. -/
theorem tuneReplacesTheFields : Obligations.TuneReplacesTheFields := by
  intro s ready mode body length
  have passes : Passes s .tune body := Operable.passes ⟨ready, mode⟩ length (by omega) rfl rfl
  refine ⟨fun none => passes.refuses (withFilter_none _ none), fun f number => ?_⟩
  have named : ∀ g, withFilter body g = g f := fun g => withFilter_some g number
  refine ⟨fun unused => passes.refuses ((named _).trans (if_pos unused)),
    fun used bad => passes.refuses ((named _).trans ((if_neg used).trans ?_)),
    fun used ok steps held => passes.grants ((named _).trans ((if_neg used).trans ?_))⟩
  · rw [settingsBody?_of_bad bad]
  · rw [settingsBody?_of_ok ok]
    dsimp only
    unfold State.tuneBody
    have held : ((taken s .tune body).tuneFilter f (wireSettings body)).profile? (wireSettings body).profile = some steps := held
    rw [held, validityBytes_eq]
    rfl

/-! ### MODE (R178, R182) -/

theorem leaveSetup_eq (t : State) : t.leaveSetup = leftSetup t := by
  unfold State.leaveSetup State.takeSettings State.applyFilterCount State.beginSurvey leftSetup
  unfold State.startScan
  simp only [mapEach_eq_map, firstNode_eq_scanStart]
  rfl

theorem busySlots_eq_zero_iff (s : State) : s.busySlots = 0 ↔ ∀ c, s.ctx c = none := by
  simp [State.busySlots, allSlots, List.filter_eq_nil_iff]

/-- The answer to MODE with a code, by the decision of the MC. -/
theorem exec_mode (ready : Ready s) (mode : s.mc.mode ≠ .survey) {b : Byte} {m : PartMode} (code : modeOfCode? b.toNat = some m) :
    exec (.mode [b]) s = .next ((taken s .mode [b]).answer .mode ((taken s .mode [b]).changeMode m)) := by
  have passes : Passes s .mode [b] := ⟨ready, rfl, Nat.le_of_ble_eq_true rfl, by simpa [Kind.accepted] using mode⟩
  refine congrArg Host.Outcome.next (passes.decided ?_)
  have code : modeOfCode? (u8 [b] 0) = some m := code
  simp only [code]

/-- The bytes of the four modes. -/
def modeByte : PartMode → Byte
  | .survey => 0
  | .setup => 1
  | .hold => 2
  | .auto => 3

theorem modeOfCode?_modeByte (m : PartMode) : modeOfCode? (modeByte m).toNat = some m := by cases m <;> rfl

theorem be8_code (m : PartMode) : be8 m.code = [modeByte m] := by cases m <;> rfl

theorem modeOfCode?_none {n : Nat} (above : 3 < n) : modeOfCode? n = none := by
  obtain ⟨k, rfl⟩ := Nat.exists_eq_add_of_lt above
  rw [show 3 + k + 1 = k + 4 by omega]
  rfl

/-- MODE with the byte of a mode, by the decision of the MC. -/
theorem exec_mode_refused (ready : Ready s) (mode : s.mc.mode ≠ .survey) {m : PartMode} {r : Reason} {i : Nat}
    (decided : (taken s .mode [modeByte m]).changeMode m = .error ⟨r, i⟩) :
    exec (.mode [modeByte m]) s = .next (refused s .mode [modeByte m] r i) := by
  rw [exec_mode ready mode (modeOfCode?_modeByte m), decided]
  rfl

theorem exec_mode_granted (ready : Ready s) (mode : s.mc.mode ≠ .survey) {m now : PartMode} {t : State}
    (decided : (taken s .mode [modeByte m]).changeMode m = accept t (be8 now.code)) :
    exec (.mode [modeByte m]) s = .next (granted t .mode [modeByte now]) := by
  rw [exec_mode ready mode (modeOfCode?_modeByte m), decided, be8_code]
  rfl

/-- Settles O39, by the mode and the target. -/
theorem modeIsDecided : Obligations.ModeIsDecided := by
  intro s ready code
  have bytes : code = modeByte := by
    funext m
    cases m <;> rfl
  clear_value code
  subst bytes
  intro ask answer refuses
  have mode_of : ∀ b, (taken s .mode b).mc.mode = s.mc.mode := fun _ => rfl
  refine ⟨fun known b above => ?_, fun survey m => ?_, fun hold => ?_, fun auto => ?_, fun setup => ?_⟩
  · have passes : Passes s .mode [b] := ⟨ready, rfl, Nat.le_of_ble_eq_true rfl, by simpa [Kind.accepted] using known⟩
    refine passes.refuses ?_
    have code : modeOfCode? (u8 [b] 0) = none := modeOfCode?_none above
    simp only [code]
  · refine congrArg _ (State.receive_mode (k := .mode) ready.1 ready.2 rfl (Nat.le_of_ble_eq_true rfl) ?_)
    rw [survey]
    rfl
  · have known : s.mc.mode ≠ .survey := by simp [hold]
    have decided : ∀ b m, (taken s .mode b).changeMode m = match m with
      | .auto => accept ((taken s .mode b).setMode .auto) (be8 PartMode.auto.code)
      | .hold => accept (taken s .mode b) (be8 PartMode.hold.code)
      | .setup =>
        if s.busySlots = 0 then accept ((taken s .mode b).setMode .setup) (be8 PartMode.setup.code) else refuse .state
      | .survey => refuse .state := fun b m => by
        unfold State.changeMode
        rw [mode_of, hold]
        cases m <;> rfl
    refine ⟨exec_mode_granted ready known (decided _ .auto), exec_mode_granted ready known (decided _ .hold),
      exec_mode_refused ready known (decided _ .survey), fun free => ?_, fun busy => ?_⟩
    · exact exec_mode_granted ready known ((decided _ .setup).trans (if_pos ((busySlots_eq_zero_iff s).2 free)))
    · refine exec_mode_refused ready known ((decided _ .setup).trans (if_neg fun none => ?_))
      obtain ⟨c, there⟩ := busy
      exact there ((busySlots_eq_zero_iff s).1 none c)
  · have known : s.mc.mode ≠ .survey := by simp [auto]
    have decided : ∀ b m, (taken s .mode b).changeMode m = match m with
      | .hold => accept ((taken s .mode b).setMode .hold) (be8 PartMode.hold.code)
      | .auto => accept (taken s .mode b) (be8 PartMode.auto.code)
      | .survey | .setup => refuse .state := fun b m => by
        unfold State.changeMode
        rw [mode_of, auto]
        cases m <;> rfl
    exact ⟨exec_mode_granted ready known (decided _ .hold), exec_mode_granted ready known (decided _ .auto),
      exec_mode_refused ready known (decided _ .survey), exec_mode_refused ready known (decided _ .setup)⟩
  · have known : s.mc.mode ≠ .survey := by simp [setup]
    have decided : ∀ b m, (taken s .mode b).changeMode m = if m = .hold then
        match failingItem s.cs.working with
        | some i => .error ⟨.invalid, i⟩
        | none => accept (taken s .mode b).leaveSetup (be8 PartMode.survey.code)
      else refuse .mode := fun b m => by
        unfold State.changeMode
        rw [mode_of, setup]
        cases m <;> rfl
    refine ⟨fun m other => exec_mode_refused ready known ((decided _ m).trans (if_neg other)), fun i fails => ?_, fun valid => ?_⟩
    · exact exec_mode_refused ready known ((decided _ .hold).trans ((if_pos rfl).trans (by rw [fails])))
    · show _ = Host.Outcome.next (granted (leftSetup (taken s .mode [modeByte .hold])) .mode [modeByte .survey])
      rw [← leaveSetup_eq]
      exact exec_mode_granted ready known ((decided _ .hold).trans ((if_pos rfl).trans (by rw [valid])))

end Sys2Proof.Claim

/-! The reads of the part, its filters, its records and its notices (R24, R66, R167, R172, R177). -/

namespace Sys2Proof.Claim

open Sys2Proof.Machine Sys2Proof.Safety

variable {s : State} {f : FilterId}

/-! ### Bit fields (R168) -/

theorem bitField_three (a b c : Bool) :
    bitField [a, b, c] = (if a then 1 else 0) + (if b then 2 else 0) + if c then 4 else 0 := by
  cases a <;> cases b <;> cases c <;> rfl

theorem bitField_four (a b c d : Bool) :
    bitField [a, b, c, d] = (if a then 1 else 0) + (if b then 2 else 0) + (if c then 4 else 0) + if d then 8 else 0 := by
  cases a <;> cases b <;> cases c <;> cases d <;> rfl

theorem bitField_five (a b c d e : Bool) :
    bitField [a, b, c, d, e] =
      (if a then 1 else 0) + (if b then 2 else 0) + (if c then 4 else 0) + (if d then 8 else 0) + if e then 16 else 0 := by
  cases a <;> cases b <;> cases c <;> cases d <;> cases e <;> rfl

theorem valveBits_eq (p : PerValve Bool) :
    valveBits p = (([.inf, .eff, .wst, .wwi, .air, .ftw] : List Valve).map fun v => if p.get v then 2 ^ v.index else 0).sum := by
  obtain ⟨a, b, c, d, e, f⟩ := p
  cases a <;> cases b <;> cases c <;> cases d <;> cases e <;> cases f <;> rfl

theorem viewBits_eq (p : PerValve ValveView) :
    viewBits p = (([.inf, .eff, .wst, .wwi, .air, .ftw] : List Valve).map fun v => (p.get v).code * 4 ^ v.index).sum := by
  simp only [viewBits, PerValve.toList, PerValve.get, Valve.index, List.foldr_cons, List.foldr_nil, List.map_cons, List.map_nil,
    List.sum_cons, List.sum_nil]
  omega

theorem slotBits_eq (l : List Slot) :
    slotBits l = ((List.finRange 4).map fun c => if c ∈ l then 2 ^ c.val else 0).sum := by
  unfold slotBits allSlots
  rw [← ofFn_eq_map_finRange, bitField_ofFn, ofFn_eq_map_finRange]
  simp only [decide_eq_true_eq]

/-! ### IDENT and STATUS (R66, R167) -/

theorem anyLost_iff (s : State) : s.anyLost = true ↔ ∃ n : Fin 23, (s.gbm.links[n.val]).lost = true := by
  unfold State.anyLost
  rw [toList_eq_ofFn, List.any_eq_true]
  constructor
  · rintro ⟨l, m, lost⟩
    obtain ⟨n, rfl⟩ := List.mem_ofFn.1 m
    exact ⟨n, lost⟩
  · exact fun ⟨n, lost⟩ => ⟨_, List.mem_ofFn.2 ⟨n, rfl⟩, lost⟩

theorem isolatingCount_eq (s : State) :
    s.isolatingCount = ((List.finRange 20).filter fun f => (s.filter f).state = .service ∧
      (s.filter f).pending.any fun m => !m.toService).length := (leavingCount_eq_isolatingCount s).symm

/-- The 39 bytes of STATUS. -/
theorem statusBody_fields (s : State) :
    HasFields s.statusBody
      [be32 s.mc.seconds.toNat, be8 s.mc.mode.code, be8 s.filterCount, be16 s.au.reportedFlow,
        be8 (if s.au.fresh then 0 else 1), opt32 (s.au.arrival.map fun t => (s.mc.seconds - t).toNat),
        opt16 (if s.au.fresh then some s.au.reportedFlow else s.plant.fallbackFlow), be16 s.au.required,
        be8 s.serviceCount, be8 s.isolatingCount, be8 (if s.au.breach then 1 else 0),
        opt32 (s.au.lastAdmission.map fun t => t.toNat),
        be8 ((List.finRange 4).map fun c => if c ∈ s.au.shed then 2 ^ c.val else 0).sum, be8 s.au.lastCheck.code,
        opt8 (s.au.lastCheck.filter?.map filterNumber), opt8 (s.au.lastCheck.reason?.map PassOver.code),
        be16 s.wq.changeNumber.toNat, be8 s.wq.entries.length, allSlots.flatMap fun c => be8 (ctxCode (s.ctx c)),
        be16 ((List.finRange 12).map fun k => if (s.nu.accounts[k.val]).pending then 2 ^ k.val else 0).sum,
        be8 (if s.nu.attnDriven then 1 else 0), be8 (if ∃ n : Fin 23, (s.gbm.links[n.val]).lost = true then 1 else 0)]
      [4, 1, 1, 2, 1, 4, 2, 2, 1, 1, 1, 4, 1, 1, 1, 1, 2, 1, 4, 2, 1, 1] where
  row := by
    have stale : flagCode (!s.au.fresh) = if s.au.fresh then 0 else 1 := by cases s.au.fresh <;> rfl
    have lost : flagCode s.anyLost = if ∃ n : Fin 23, (s.gbm.links[n.val]).lost = true then 1 else 0 := by
      simp only [flagCode, anyLost_iff]
    unfold State.statusBody
    rw [stale, lost, slotBits_eq, pendingBits_eq]
    simp only [List.flatten_cons, List.flatten_nil, List.append_assoc, List.append_nil]
    rfl
  widths := by
    have slots : (allSlots.flatMap fun c => be8 (ctxCode (s.ctx c))).length = 4 :=
      length_flatMap_of_width (n := 1) (fun _ => rfl) allSlots
    simp only [List.map_cons, List.map_nil, length_be8, length_be16, length_be32, length_opt8, length_opt16, length_opt32, slots]

theorem identBody_eq (s : State) :
    s.identBody =
      [0x4A, 0x14, 1, 20, if s.hlu.fastLink then 1 else 0, BitVec.ofNat 8 s.mc.mode.code, BitVec.ofNat 8 s.filterCount] := by
  unfold State.identBody
  cases s.hlu.fastLink <;> rfl

/-- Settles O27, from the layout of STATUS. -/
theorem identAndStatusReportThePart : Obligations.IdentAndStatusReportThePart := by
  intro s ready
  have ident : Passes s .ident [] := ⟨ready, rfl, Nat.le_of_ble_eq_true rfl, rfl⟩
  have status : Passes s .status [] := ⟨ready, rfl, Nat.le_of_ble_eq_true rfl, rfl⟩
  have h := statusBody_fields s
  refine ⟨ident.grants (congrArg (accept _) (identBody_eq (taken s .ident []))), s.statusBody, status.grants rfl, h.length rfl,
    h.first, h.at_ 1 rfl rfl, h.at_ 2 rfl rfl, h.at_ 3 rfl rfl, h.at_ 4 rfl rfl, h.at_ 5 rfl rfl, h.at_ 6 rfl rfl, h.at_ 7 rfl rfl,
    h.at_ 8 rfl rfl, ?_, h.at_ 10 rfl rfl, h.at_ 11 rfl rfl, h.at_ 12 rfl rfl, h.at_ 13 rfl rfl, ?_, h.at_ 16 rfl rfl,
    h.at_ 17 rfl rfl, fun c => ?_, h.at_ 19 rfl rfl, h.at_ 20 rfl rfl, h.at_ 21 rfl rfl⟩
  · rw [← isolatingCount_eq]
    exact h.at_ 9 rfl rfl
  · have filter := h.at_ 14 (pos := 26) rfl rfl
    have reason := h.at_ 15 (pos := 27) rfl rfl
    cases check : s.au.lastCheck <;> rw [check] at filter reason <;> exact ⟨filter, reason⟩
  · have at_c : allSlots[c.val]? = some c := by
      unfold allSlots
      rw [List.getElem?_eq_getElem (by simp), List.getElem_finRange]
      rfl
    have part : HasAt (allSlots.flatMap fun c => be8 (ctxCode (s.ctx c))) (1 * c.val + 0) (be8 (ctxCode (s.ctx c))) :=
      HasAt.flatMap (item := fun c => be8 (ctxCode (s.ctx c))) (k := 0) (field := be8 (ctxCode (s.ctx c))) (fun _ => rfl)
        (Nat.le_refl 1) at_c rfl
    rw [Nat.one_mul, Nat.add_zero] at part
    exact h.within 18 rfl part c.isLt rfl

/-! ### FILTER-READ and PATTERN-READ (R24) -/

theorem entry?_isSome_iff (s : State) (f : FilterId) : (s.entry? f).isSome = true ↔ ∃ e ∈ s.wq.entries, e.filter = f := by
  simp [State.entry?, List.find?_isSome]

theorem filterMarks_eq (s : State) (f : FilterId) :
    bitField [(s.filter f).drift, (s.filter f).totalClear, (s.filter f).shortRipen, (s.filter f).rewashPending,
      (s.entry? f).isSome] =
      (if (s.filter f).drift then 1 else 0) + (if (s.filter f).totalClear then 2 else 0) +
        (if (s.filter f).shortRipen then 4 else 0) + (if (s.filter f).rewashPending then 8 else 0) +
        (if ∃ e ∈ s.wq.entries, e.filter = f then 16 else 0) := by
  rw [bitField_five]
  simp only [entry?_isSome_iff]

/-- The code of the pending pattern. -/
def pendingCode (m : Option Movement) : Option Nat :=
  m.map fun m => (if m.toService then Pattern.service else Pattern.isolated).code

theorem pendingBytes_eq (m : Option Movement) :
    pendingBytes m = opt8 (pendingCode m) ++ opt32 (m.map fun m => m.start.toNat) := by cases m <;> rfl

/-- The 30 bytes of FILTER-READ. -/
theorem filterBody_fields (s : State) (f : FilterId) :
    HasFields (s.filterBody f)
      [be8 (f.val + 1), be8 (s.filter f).state.code, be8 (heldCode (s.filter f).held),
        opt8 ((s.filter f).commanded.map Pattern.code), opt8 (pendingCode (s.filter f).pending),
        opt32 ((s.filter f).pending.map fun m => m.start.toNat),
        be16 (([.inf, .eff, .wst, .wwi, .air, .ftw] : List Valve).map fun v =>
          ((s.filter f).view.get v).code * 4 ^ v.index).sum,
        be8 ((if (s.filter f).drift then 1 else 0) + (if (s.filter f).totalClear then 2 else 0) +
          (if (s.filter f).shortRipen then 4 else 0) + (if (s.filter f).rewashPending then 8 else 0) +
          (if ∃ e ∈ s.wq.entries, e.filter = f then 16 else 0)),
        opt8 ((s.filter f).trip.map fun i => i.val), opt8 ((s.filter f).fault.map fun x => x.cause.code),
        opt8 ((s.filter f).fault.bind fun x => x.valve.map Valve.index), be32 (s.filter f).runSeconds,
        be32 (s.filter f).filteredVolume, be16 (s.filter f).headloss.toNat, be16 (s.filter f).level.toNat,
        be16 (s.filter f).turbidity.toNat, opt8 ((s.slotNaming f).map fun c => c.val)]
      [1, 1, 1, 1, 1, 4, 2, 1, 1, 1, 1, 4, 4, 2, 2, 2, 1] where
  row := by
    have valve : optValve ((s.filter f).fault.bind fun x => x.valve) =
        opt8 ((s.filter f).fault.bind fun x => x.valve.map Valve.index) := by cases (s.filter f).fault <;> rfl
    unfold State.filterBody
    dsimp only
    rw [viewBits_eq, filterMarks_eq, valve, pendingBytes_eq]
    simp only [FilterRecord.analogBytes, List.flatten_cons, List.flatten_nil, List.append_assoc, List.append_nil]
    rfl
  widths := by
    simp only [List.map_cons, List.map_nil, length_be8, length_be16, length_be32, length_opt8, length_opt32]

theorem patternBody_eq (s : State) (f : FilterId) :
    s.patternBody f =
      be8 (([.inf, .eff, .wst, .wwi, .air, .ftw] : List Valve).map fun v => if (s.fnode f).image.get v then 2 ^ v.index else 0).sum ++
        be16 (([.inf, .eff, .wst, .wwi, .air, .ftw] : List Valve).map fun v =>
          ((s.filter f).view.get v).code * 4 ^ v.index).sum ++
        opt8 ((s.filter f).commanded.map Pattern.code) ++ opt8 (pendingCode (s.filter f).pending) ++
        opt32 ((s.filter f).pending.map fun m => m.start.toNat) := by
  unfold State.patternBody
  dsimp only
  rw [valveBits_eq, viewBits_eq, pendingBytes_eq, List.append_assoc _ (opt8 (pendingCode _))]
  rfl

/-- Settles O28, from the layout of FILTER-READ. -/
theorem filterReadsReportTheRecord : Obligations.FilterReadsReportTheRecord := by
  intro s ready
  have filter : ∀ b, Passes s .filterRead [b] := fun b => ⟨ready, rfl, Nat.le_of_ble_eq_true rfl, rfl⟩
  have pattern : ∀ b, Passes s .patternRead [b] := fun b => ⟨ready, rfl, Nat.le_of_ble_eq_true rfl, rfl⟩
  refine ⟨fun b none => ⟨(filter b).refuses (withFilter_no none _), (pattern b).refuses (withFilter_no none _)⟩, fun f => ?_⟩
  have h := filterBody_fields s f
  refine ⟨⟨s.filterBody f, (filter _).grants ((withFilter_byte ..).trans rfl), h.length rfl, h.first, h.at_ 1 rfl rfl,
    h.at_ 2 rfl rfl, h.at_ 3 rfl rfl, h.at_ 4 rfl rfl, h.at_ 5 rfl rfl, h.at_ 6 rfl rfl, h.at_ 7 rfl rfl, h.at_ 8 rfl rfl,
    h.at_ 9 rfl rfl, h.at_ 10 rfl rfl, h.at_ 11 rfl rfl, h.at_ 12 rfl rfl, h.at_ 13 rfl rfl, h.at_ 14 rfl rfl,
    h.at_ 15 rfl rfl, h.at_ 16 rfl rfl⟩, (pattern _).grants ((withFilter_byte ..).trans ?_)⟩
  exact congrArg (accept _) (patternBody_eq (taken s .patternRead [filterByte f]) f)

/-! ### RECORD-READ (R177) -/

/-- The snapshot part of a record (R138). -/
theorem snapshotBytes_fields (x : Snapshot) :
    HasFields (snapshotBytes (some x))
      [be8 x.step.index, be8 (kindCode x.step.kind), be8 x.step.phase.code, be32 x.step.elapsed.toNat,
        be8 (([.inf, .eff, .wst, .wwi, .air, .ftw] : List Valve).map fun v =>
          if x.valves.commanded.get v then 2 ^ v.index else 0).sum,
        be16 (([.inf, .eff, .wst, .wwi, .air, .ftw] : List Valve).map fun v => (x.valves.seen.get v).code * 4 ^ v.index).sum,
        be8 ((if x.valves.headers.air then 1 else 0) + (if x.valves.headers.wash then 2 else 0) +
          if x.valves.headers.ftw then 4 else 0)]
      [1, 1, 1, 4, 1, 2, 1] where
  row := by
    unfold snapshotBytes HeaderSet.bits
    dsimp only
    rw [valveBits_eq, viewBits_eq, bitField_three]
    simp only [List.flatten_cons, List.flatten_nil, List.append_assoc, List.append_nil]
  widths := by simp only [List.map_cons, List.map_nil, length_be8, length_be16, length_be32]

theorem length_snapshotBytes (x : Option Snapshot) : (snapshotBytes x).length = 11 := by
  cases x with
  | none => rfl
  | some x => exact (snapshotBytes_fields x).length rfl

/-- The 37 bytes of RECORD-READ. -/
theorem recordBody_fields (s : State) (r : WashRecord) :
    HasFields (s.recordBody r)
      [be8 s.wr.records.length, be16 s.wr.nextSequence.toNat, be16 r.sequence.toNat, be8 (r.filter.val + 1), be8 r.profile,
        be8 r.cls.code, be8 r.causes.bits, be32 r.admissionTime.toNat, be32 r.endTime.toNat, be8 r.outcome.code,
        be8 (if r.reduced then 1 else 0), be8 (if r.secondAttempt then 1 else 0), be16 r.waterPlanned,
        opt8 (r.cause.map FaultCause.code), opt8 (r.secondCause.map FaultCause.code), be8 r.ripenResult.code,
        be8 (if r.snapshot.isSome then 1 else 0), snapshotBytes r.snapshot]
      [1, 2, 2, 1, 1, 1, 1, 4, 4, 1, 1, 1, 2, 1, 1, 1, 1, 11] where
  row := by
    have reduced : bitField [r.reduced] = if r.reduced then 1 else 0 := by cases r.reduced <;> rfl
    unfold State.recordBody WashRecord.bytes
    rw [reduced]
    simp only [List.flatten_cons, List.flatten_nil, List.append_assoc, List.append_nil]
    rfl
  widths := by
    simp only [List.map_cons, List.map_nil, length_be8, length_be16, length_be32, length_opt8, length_snapshotBytes]

/-- Settles O33, from the layout of a record. -/
theorem recordReadIsByAge : Obligations.RecordReadIsByAge := by
  intro s i ready
  have passes : Passes s .recordRead [i] := ⟨ready, rfl, Nat.le_of_ble_eq_true rfl, rfl⟩
  refine ⟨fun above => passes.refuses (if_pos above), fun low none => passes.refuses ((if_neg (Nat.not_lt.2 low)).trans ?_),
    fun r low held => ?_⟩
  · have none : (taken s .recordRead [i]).wr.records[u8 [i] 0]? = Option.none := List.getElem?_eq_none none
    simp only [none]
  · have h := recordBody_fields s r
    refine ⟨s.recordBody r, passes.grants ((if_neg (Nat.not_lt.2 low)).trans ?_), h.length rfl, h.first, h.at_ 1 rfl rfl,
      h.at_ 2 rfl rfl, h.at_ 3 rfl rfl, h.at_ 4 rfl rfl, h.at_ 5 rfl rfl, h.at_ 6 rfl rfl, h.at_ 7 rfl rfl, h.at_ 8 rfl rfl,
      h.at_ 9 rfl rfl, h.at_ 10 rfl rfl, h.at_ 11 rfl rfl, h.at_ 12 rfl rfl, h.at_ 13 rfl rfl, h.at_ 14 rfl rfl,
      h.at_ 15 rfl rfl, fun bare => ?_, fun x snapshot => ?_⟩
    · have held : (taken s .recordRead [i]).wr.records[u8 [i] 0]? = some r := held
      simp only [held]
      rfl
    · rw [bare] at h
      exact ⟨h.at_ 16 rfl rfl, h.at_ 17 rfl rfl⟩
    · rw [snapshot] at h
      have x_at := snapshotBytes_fields x
      exact ⟨h.at_ 16 rfl rfl, h.sub 17 rfl x_at 0 rfl rfl, h.sub 17 rfl x_at 1 rfl rfl, h.sub 17 rfl x_at 2 rfl rfl,
        h.sub 17 rfl x_at 3 rfl rfl, h.sub 17 rfl x_at 4 rfl rfl, h.sub 17 rfl x_at 5 rfl rfl, h.sub 17 rfl x_at 6 rfl rfl⟩

/-! ### NOTICE-READ and NOTICE-ENABLE (R172) -/

/-- The 29 bytes of NOTICE-READ. -/
theorem noticeBody_fields (s : State) :
    HasFields s.noticeBody
      [be16 s.cs.working.enables.toNat,
        be16 ((List.finRange 12).map fun k => if (s.nu.accounts[k.val]).pending then 2 ^ k.val else 0).sum,
        s.nu.accounts.toList.flatMap NoticeAccount.bytes, be8 (if s.nu.attnDriven then 1 else 0)]
      [2, 2, 24, 1] where
  row := by
    unfold State.noticeBody
    rw [pendingBits_eq]
    simp only [List.flatten_cons, List.flatten_nil, List.append_assoc, List.append_nil]
    rfl
  widths := by
    have accounts : (s.nu.accounts.toList.flatMap NoticeAccount.bytes).length = 24 := by
      rw [length_flatMap_of_width (n := 2) (fun _ => rfl), Vector.length_toList]
    simp only [List.map_cons, List.map_nil, length_be8, length_be16, accounts]

/-- Settles O34, from the layout of NOTICE-READ. -/
theorem noticesAreReadAndEnabled : Obligations.NoticesAreReadAndEnabled := by
  intro s ready
  have read : Passes s .noticeRead [] := ⟨ready, rfl, Nat.le_of_ble_eq_true rfl, rfl⟩
  have h := noticeBody_fields s
  refine ⟨⟨s.noticeBody, read.grants rfl, h.length rfl, h.first, h.at_ 1 rfl rfl, fun k => ?_, h.at_ 3 rfl rfl⟩, fun a b => ?_⟩
  · have at_k : s.nu.accounts.toList[k.val]? = some (s.nu.accounts[k.val]) := by simp
    have part : HasAt (s.nu.accounts.toList.flatMap NoticeAccount.bytes) (2 * k.val + 0)
        (be8 (s.nu.accounts[k.val]).count ++ be8 (s.nu.accounts[k.val]).lastFilter) :=
      HasAt.flatMap (n := 2) (k := 0) (field := be8 (s.nu.accounts[k.val]).count ++ be8 (s.nu.accounts[k.val]).lastFilter)
        (fun _ => rfl) (Nat.le_refl 2) at_k rfl
    refine h.within 2 rfl part ?_ rfl
    rw [length_flatMap_of_width (n := 2) (fun _ => rfl), Vector.length_toList]
    show 2 * k.val + 0 + 2 ≤ 2 * 12
    omega
  · have enable : Passes s .noticeEnable [a, b] := ⟨ready, rfl, Nat.le_of_ble_eq_true rfl, rfl⟩
    exact enable.grants rfl

end Sys2Proof.Claim

/-! CONTEXT-READ (R91, R125). -/

namespace Sys2Proof.Claim

open Sys2Proof.Machine Sys2Proof.Safety

variable {s : State} {c : Slot} {w : WashContext}

/-! ### The parts of the body -/

theorem HasFields.pair (x y : List Byte) : HasFields (x ++ y) [x, y] [x.length, y.length] := ⟨by simp, rfl⟩

theorem length_stepFieldBytes (p : Option PlannedStep) : (stepFieldBytes p).length = 9 := by cases p <;> rfl

theorem length_awaitBytes (s : State) (c : Slot) : (s.awaitBytes c).length = 2 := by
  unfold State.awaitBytes
  cases s.headerAwaited c <;> rfl

theorem awaitBytes_none (none : s.headerAwaited c = none) : s.awaitBytes c = [0xFF, 0xFF] := by
  unfold State.awaitBytes
  rw [none]
  rfl

theorem awaitBytes_some {g : Header} (awaited : s.headerAwaited c = some g) :
    s.awaitBytes c = be8 g.code ++ be8 ((s.header g).waiting.idxOf c) := by
  unfold State.awaitBytes
  rw [awaited]

/-- The ripening fields when they are carried (R125). -/
theorem ripenBytes_fields (s : State) {w : WashContext} (carried : w.kind? = some .ripen ∨ w.ripenResult ≠ .none) :
    HasFields (s.ripenBytes w)
      [opt32 (w.sustainStart.map fun t => t.toNat), opt32 (s.sustainLeft w), be8 w.ripenResult.code,
        opt16 ((s.filterConfig w.filter).settings.map fun x => x.returnLimit)]
      [4, 4, 1, 2] where
  row := by
    unfold State.ripenBytes
    rw [if_pos (by rcases carried with h | h <;> simp [h])]
    simp only [List.flatten_cons, List.flatten_nil, List.append_assoc, List.append_nil]
    rfl
  widths := by simp only [List.map_cons, List.map_nil, length_be8, length_opt16, length_opt32]

theorem ripenBytes_unused (s : State) {w : WashContext} (kind : w.kind? ≠ some .ripen) (result : w.ripenResult = .none) :
    s.ripenBytes w = List.replicate 11 0xFF := if_neg (by simp [kind, result])

theorem length_ripenBytes (s : State) (w : WashContext) : (s.ripenBytes w).length = 11 := by
  by_cases carried : w.kind? = some .ripen ∨ w.ripenResult ≠ .none
  · exact (ripenBytes_fields s carried).length rfl
  · rw [not_or, Classical.not_not] at carried
    rw [ripenBytes_unused s carried.1 carried.2, List.length_replicate]

theorem stepFieldBytes_fields (p : PlannedStep) :
    HasFields (stepFieldBytes (some p))
      [be16 p.step.duration, be16 p.step.flowTarget, be16 p.step.fallbackFlow, be16 p.step.levelTarget,
        be8 (if p.step.holdPoint then 1 else 0)]
      [2, 2, 2, 2, 1] where
  row := by
    unfold stepFieldBytes
    simp only [List.flatten_cons, List.flatten_nil, List.append_assoc, List.append_nil]
    rfl
  widths := rfl

/-- The limit and the seconds left of the timer that runs. -/
def timerBytes (s : State) (w : WashContext) : List Byte := opt16 (s.timerOf w).1 ++ opt32 (s.timerOf w).2

theorem timerBytes_fields (s : State) (w : WashContext) :
    HasFields (timerBytes s w) [opt16 (s.timerOf w).1, opt32 (s.timerOf w).2] [2, 4] := by
  have pair := HasFields.pair (opt16 (s.timerOf w).1) (opt32 (s.timerOf w).2)
  rwa [length_opt16, length_opt32] at pair

theorem contextBody_some (ctx : s.ctx c = some w) :
    s.contextBody c = be8 c.val ++ be8 (ctxCode (some w)) ++ s.contextFields c w := by
  unfold State.contextBody
  simp only [ctx]

theorem contextBody_none (ctx : s.ctx c = none) : s.contextBody c = be8 c.val ++ be8 0 := by
  unfold State.contextBody
  simp only [ctx, List.append_nil]
  rfl

/-- The 67 bytes of CONTEXT-READ for a context that is not FREE. -/
theorem contextBody_fields (ctx : s.ctx c = some w) :
    HasFields (s.contextBody c)
      [be8 c.val, be8 (ctxCode (some w)), be8 (w.filter.val + 1), be8 w.profile.number, be8 w.profile.steps.length,
        be8 w.cls.code, be8 w.causes.bits, be32 w.entryTime.toNat, be32 w.admissionTime.toNat, be8 w.stepIndex,
        be8 (kindCode w.kind?), stepFieldBytes w.planned?, be8 w.phase.code, be32 (s.mc.seconds - w.stepStart).toNat,
        be32 (s.mc.seconds - w.phaseStart).toNat, timerBytes s w, be8 w.progress.code,
        be8 ((if s.holds c .air then 1 else 0) + (if s.holds c .wash then 2 else 0) + if s.holds c .ftw then 4 else 0),
        s.awaitBytes c, be16 w.tankRemaining.toNat, be16 w.basinRemaining.toNat,
        be8 ((if w.reduced then 1 else 0) + if w.fallbackUsed then 2 else 0), be8 (if w.secondAttempt then 1 else 0),
        be16 w.setpoint, opt8 (w.exitKind.map ExitKind.code), opt8 (w.cause.map FaultCause.code),
        opt8 (w.secondCause.map FaultCause.code), s.ripenBytes w]
      [1, 1, 1, 1, 1, 1, 1, 4, 4, 1, 1, 9, 1, 4, 4, 6, 1, 1, 2, 2, 2, 1, 1, 2, 1, 1, 1, 11] where
  row := by
    rw [contextBody_some ctx]
    unfold State.contextFields HeaderSet.bits timerBytes
    rw [bitField_three, bitField_pair]
    simp only [List.flatten_cons, List.flatten_nil, List.append_assoc, List.append_nil]
    rfl
  widths := by
    simp only [List.map_cons, List.map_nil, length_be8, length_be16, length_be32, length_opt8, length_stepFieldBytes,
      (timerBytes_fields s w).length rfl, length_awaitBytes, length_ripenBytes]
    rfl

/-! ### The timer that runs (R91, R128) -/

theorem startTimes_eq (w : WashContext) :
    startTimes w = [w.airSupply, w.washSupply].filterMap SupplyState.startTime? := rfl

/-- The start that expires first is the one that has run for longest. -/
theorem startLeft_eq {t : Seconds} (m : t ∈ startTimes w)
    (longest : ∀ u ∈ startTimes w, (s.mc.seconds - u).toNat ≤ (s.mc.seconds - t).toNat) :
    s.startLeft w = some (s.plant.startConfirm - (s.mc.seconds - t).toNat) := by
  unfold State.startLeft
  rw [← startTimes_eq]
  refine List.min?_eq_some_iff.2 ⟨List.mem_map.2 ⟨t, m, rfl⟩, fun left at_left => ?_⟩
  obtain ⟨u, there, rfl⟩ := List.mem_map.1 at_left
  exact Nat.sub_le_sub_left (longest u there) _

theorem sustainLeft_running (h : WatchRuns w) : s.sustainLeft w =
    w.sustainStart.map fun t => s.plant.ripenSustain - (s.mc.seconds - t).toNat := by
  obtain ⟨active, phase, kind⟩ := h
  exact if_pos (by simp [WashContext.watchRuns, WashContext.activeIn, active, phase, kind])

theorem sustainLeft_idle (h : ¬ WatchRuns w ∨ w.sustainStart = none) : s.sustainLeft w = none := by
  unfold State.sustainLeft
  split
  · rename_i runs
    have running : WatchRuns w := by
      simpa [WashContext.watchRuns, WashContext.activeIn, WatchRuns, and_assoc] using runs
    rcases h with still | none
    · exact absurd running still
    · rw [none]
      rfl
  · rfl

/-- The timer of an ACTIVE context, by its phase. -/
theorem timerOf_active (active : w.state = .active) :
    s.timerOf w = match w.phase with
      | .acquire => (some s.plant.headerWait, some (s.plant.headerWait - (s.mc.seconds - w.phaseStart).toNat))
      | .setting => (some s.plant.travelLimit, some (s.plant.travelLimit - (s.mc.seconds - w.phaseStart).toNat))
      | .starting => (some s.plant.startConfirm, s.startLeft w)
      | .ramping => (some s.plant.rampWindow, w.windowStart.map fun t => s.plant.rampWindow - (s.mc.seconds - t).toNat)
      | .timing =>
        match w.planned? with
        | some p => (some p.step.duration, some (p.step.duration - (s.mc.seconds - w.phaseStart).toNat))
        | none => (none, none)
      | .holdpoint => (some s.plant.holdLimit, some (s.plant.holdLimit - (s.mc.seconds - w.phaseStart).toNat)) := by
  unfold State.timerOf
  rw [active]
  cases w.phase with
  | timing => cases w.planned? <;> rfl
  | _ => rfl

theorem timerOf_exiting (exiting : w.state = .exiting) :
    s.timerOf w = (some s.plant.travelLimit, w.exitStart.map fun t => s.plant.travelLimit - (s.mc.seconds - t).toNat) := by
  unfold State.timerOf
  rw [exiting]
  rfl

theorem timerBytes_orphan (orphan : w.state = .orphan) : timerBytes s w = List.replicate 6 0xFF := by
  unfold timerBytes State.timerOf
  rw [orphan]
  rfl

/-- Settles O30, from the layout of a context and the timer of its state and phase. -/
theorem contextReadReportsTheWash : Obligations.ContextReadReportsTheWash := by
  intro s ready
  have passes : ∀ b, Passes s .contextRead [b] := fun b => ⟨ready, rfl, Nat.le_of_ble_eq_true rfl, rfl⟩
  have named : ∀ (c : Slot) g, withSlot [slotByte c] g = g c := fun c g =>
    withSlot_some g ((BitVec.toNat_ofNat _ _).trans (Nat.mod_eq_of_lt (by omega)))
  refine ⟨fun b above => (passes b).refuses (withSlot_none (body := [b]) _ above), fun c => ?_⟩
  refine ⟨(taken s .contextRead [slotByte c]).contextBody c, (passes _).grants ((named ..).trans rfl), ?_⟩
  cases ctx : s.ctx c with
  | none =>
    rw [contextBody_none (s := taken s .contextRead [slotByte c]) ctx]
    exact ⟨rfl, rfl, fun _ => rfl, fun _ other => by cases other⟩
  | some w =>
    have h := contextBody_fields (s := taken s .contextRead [slotByte c]) ctx
    have timed : ∀ limit left, s.timerOf w = (some limit, left) →
        HasAt ((taken s .contextRead [slotByte c]).contextBody c) 35 (be16 limit) ∧
          HasAt ((taken s .contextRead [slotByte c]).contextBody c) 37 (opt32 left) := fun limit left runs => by
      have row := timerBytes_fields (taken s .contextRead [slotByte c]) w
      rw [show (taken s .contextRead [slotByte c]).timerOf w = (some limit, left) from runs] at row
      exact ⟨h.sub 15 rfl row 0 rfl rfl, h.sub 15 rfl row 1 rfl rfl⟩
    have active := timerOf_active (s := s) (w := w)
    refine ⟨h.first, h.at_ 1 rfl rfl, (fun other => by cases other), fun v same => ?_⟩
    obtain rfl := Option.some.inj same
    refine ⟨h.length rfl, h.at_ 2 rfl rfl, h.at_ 3 rfl rfl, h.at_ 4 rfl rfl, h.at_ 5 rfl rfl, h.at_ 6 rfl rfl, h.at_ 7 rfl rfl,
      h.at_ 8 rfl rfl, h.at_ 9 rfl rfl, h.at_ 10 rfl rfl, fun p planned => ?_, fun ends => ?_, h.at_ 12 rfl rfl, h.at_ 13 rfl rfl,
      h.at_ 14 rfl rfl, fun orphan => ?_, fun exiting => ?_, fun live phase => ?_, fun live phase => ?_, fun live phase => ?_,
      fun live phase => ?_, fun p live phase planned => ?_, fun live phase => ?_, h.at_ 16 rfl rfl, h.at_ 17 rfl rfl,
      fun none => ?_, fun g awaited => ?_, h.at_ 19 rfl rfl, h.at_ 20 rfl rfl, h.at_ 21 rfl rfl, h.at_ 22 rfl rfl,
      h.at_ 23 rfl rfl, h.at_ 24 rfl rfl, h.at_ 25 rfl rfl, h.at_ 26 rfl rfl, fun carried => ?_, fun kind result => ?_⟩
    · rw [planned] at h
      have row := stepFieldBytes_fields p
      exact ⟨h.sub 11 rfl row 0 rfl rfl, h.sub 11 rfl row 1 rfl rfl, h.sub 11 rfl row 2 rfl rfl, h.sub 11 rfl row 3 rfl rfl,
        h.sub 11 rfl row 4 rfl rfl⟩
    · rw [ends] at h
      exact h.at_ 11 rfl rfl
    · rw [timerBytes_orphan orphan] at h
      exact h.at_ 15 rfl rfl
    · obtain ⟨limit, left⟩ := timed _ _ (timerOf_exiting exiting)
      refine ⟨limit, fun t started => ?_⟩
      rw [started] at left
      exact left
    · exact timed _ _ ((active live).trans (by rw [phase]))
    · exact timed _ _ ((active live).trans (by rw [phase]))
    · obtain ⟨limit, left⟩ := timed _ _ ((active live).trans (by rw [phase]))
      refine ⟨limit, fun t m longest => ?_⟩
      rw [startLeft_eq m longest] at left
      exact left
    · obtain ⟨limit, left⟩ := timed _ _ ((active live).trans (by rw [phase]))
      refine ⟨limit, fun t started => ?_⟩
      rw [started] at left
      exact left
    · exact timed _ _ ((active live).trans (by rw [phase, planned]))
    · exact timed _ _ ((active live).trans (by rw [phase]))
    · have there := h.at_ 18 (pos := 43) rfl rfl
      rwa [awaitBytes_none (s := taken s .contextRead [slotByte c]) none] at there
    · have there := h.at_ 18 (pos := 43) rfl rfl
      rwa [awaitBytes_some (s := taken s .contextRead [slotByte c]) awaited] at there
    · have row := ripenBytes_fields (taken s .contextRead [slotByte c]) carried
      refine ⟨h.sub 27 rfl row 0 rfl rfl, fun t runs sustained => ?_, fun idle => ?_, h.sub 27 rfl row 2 rfl rfl,
        h.sub 27 rfl row 3 rfl rfl⟩
      · rw [sustainLeft_running runs, sustained] at row
        exact h.sub 27 rfl row 1 rfl rfl
      · rw [sustainLeft_idle idle] at row
        exact h.sub 27 rfl row 1 rfl rfl
    · rw [ripenBytes_unused _ kind result] at h
      exact h.at_ 27 rfl rfl

end Sys2Proof.Claim

/-! RESOURCE-READ, NODE-READ and NODE-CLEAR (R113, R155, R156). -/

namespace Sys2Proof.Claim

open Sys2Proof.Machine Sys2Proof.Safety

variable {s : State}

/-! ### Padded fields -/

theorem padTo_eq {n : Nat} {x : List Byte} (fits : x.length ≤ n) : padTo n x = x ++ List.replicate (n - x.length) 0xFF := by
  unfold padTo unused
  rw [List.take_append, List.take_of_length_le fits, List.take_replicate, Nat.min_eq_left (Nat.sub_le _ _)]

theorem length_padTo (n : Nat) (x : List Byte) : (padTo n x).length = n := by simp [padTo, unused]

theorem hasAt_byte {x : List Byte} {i : Nat} {b : Byte} (at_i : x[i]? = some b) : HasAt x i [b] := by
  obtain ⟨inside, rfl⟩ := List.getElem?_eq_some_iff.1 at_i
  unfold HasAt
  rw [List.drop_eq_getElem_cons inside]
  rfl

theorem padTo_getElem? {n i : Nat} (x : List Byte) (inside : i < n) : (padTo n x)[i]? = some (x[i]?.getD 0xFF) := by
  unfold padTo unused
  rw [List.getElem?_take_of_lt inside, List.getElem?_append]
  split
  · rename_i h
    rw [List.getElem?_eq_getElem h]
    rfl
  · rename_i h
    rw [List.getElem?_replicate, if_pos (by omega), List.getElem?_eq_none (Nat.not_lt.1 h)]
    rfl

/-! ### RESOURCE-READ (R113) -/

theorem length_holdingBytes (x : Option Holding) : (holdingBytes x).length = 2 := by cases x <;> rfl

/-- The ten bytes of a header. -/
theorem headerBlock_fields (s : State) (h : Header) :
    HasFields (s.headerBlock h)
      [be8 (if h = .ftw then 2 else 1), holdingBytes (s.header h).holdings[0]?, holdingBytes (s.header h).holdings[1]?,
        be8 (s.header h).waiting.length, padTo 4 ((s.header h).waiting.flatMap fun c => be8 c.val)]
      [1, 2, 2, 1, 4] where
  row := by
    have capacity : h.capacity = if h = .ftw then 2 else 1 := by cases h <;> rfl
    unfold State.headerBlock
    rw [capacity]
    simp only [List.flatten_cons, List.flatten_nil, List.append_assoc, List.append_nil]
  widths := by simp only [List.map_cons, List.map_nil, length_be8, length_holdingBytes, length_padTo]

theorem waiters_eq_map (l : List Slot) : (l.flatMap fun c => be8 c.val) = l.map fun c => BitVec.ofNat 8 c.val := by
  induction l with
  | nil => rfl
  | cons x xs ih => rw [List.flatMap_cons, ih, List.map_cons]; rfl

/-- The supply state and unit of a pair, and the holder of its header. -/
theorem supplyBytes_fields (s : State) (p : SupplyPair) :
    HasFields (s.supplyBytes p)
      [be8 (s.supplyOf p).code ++ opt8 ((s.supplyOf p).unit?.map UnitId.code), optSlot (s.holderOf p)] [2, 1] where
  row := by
    unfold State.supplyBytes
    simp only [List.flatten_cons, List.flatten_nil, List.append_assoc, List.append_nil]
  widths := by
    simp only [List.map_cons, List.map_nil, List.length_append, length_be8, length_opt8, optSlot]

theorem length_marginBytes (s : State) (v : Nat) (total : Int) (reserve : Option Nat) (n : Nat) :
    (s.marginBytes v total reserve n).length = 4 := by cases reserve <;> rfl

/-- The 72 bytes of RESOURCE-READ. -/
theorem resourceBody_fields (s : State) :
    HasFields s.resourceBody
      [s.headerBlock .air, s.headerBlock .wash, s.headerBlock .ftw, s.supplyBytes .blowers,
        be8 ((if s.gbm.airNode.image.a then 1 else 0) + if s.gbm.airNode.image.b then 2 else 0), s.supplyBytes .pumps,
        be8 ((if s.gbm.washNode.image.a then 1 else 0) + if s.gbm.washNode.image.b then 2 else 0),
        be16 s.gbm.washNode.image.setpoint,
        be8 ((if s.ra.pumpDuty = .b then 1 else 0) + if s.ra.blowerDuty = .b then 2 else 0),
        be8 ((if s.ra.pumpFault.a then 1 else 0) + (if s.ra.pumpFault.b then 2 else 0) +
          (if s.ra.blowerFault.a then 4 else 0) + if s.ra.blowerFault.b then 8 else 0),
        s.pumpReadings.bytes, be8 (if s.isLost .washWater then 1 else 0), s.blowerReadings.bytes,
        be8 (if s.isLost .airNode then 1 else 0), s.wasteReadings.bytes, be8 (if s.isLost .waste then 1 else 0),
        be32 s.ra.tankTotal.toNat, be32 s.ra.basinTotal.toNat,
        s.marginBytes s.tankAvailable s.ra.tankTotal s.plant.tankReserve 0,
        s.marginBytes s.basinFree s.ra.basinTotal s.plant.basinReserve 1]
      [10, 10, 10, 3, 1, 3, 1, 2, 1, 1, 5, 1, 3, 1, 3, 1, 4, 4, 4, 4] where
  row := by
    unfold State.resourceBody PumpImage.bytes BlowerImage.bytes
    simp only [bitField_pair, bitField_four, decide_eq_true_eq, List.flatten_cons, List.flatten_nil, List.append_assoc,
      List.append_nil]
    rfl
  widths := by
    simp only [List.map_cons, List.map_nil, length_be8, length_be16, length_be32, length_marginBytes,
      (headerBlock_fields s _).length rfl, (supplyBytes_fields s _).length rfl]
    rfl

/-- A header's block stands at a position of a body. -/
def HeaderAt (s : State) (b : List Byte) (h : Header) (pos : Nat) : Prop :=
  HasAt b pos (be8 (if h = .ftw then 2 else 1)) ∧
    (∀ i, i < 2 → ∀ x, (s.header h).holdings[i]? = some x →
      HasAt b (pos + 1 + 2 * i) (be8 x.slot.val ++ be8 (if x.orphan then 1 else 0))) ∧
    (∀ i, i < 2 → (s.header h).holdings[i]? = none → HasAt b (pos + 1 + 2 * i) [0xFF, 0xFF]) ∧
    HasAt b (pos + 5) (be8 (s.header h).waiting.length) ∧
    (∀ i, i < 4 → ∀ c, (s.header h).waiting[i]? = some c → HasAt b (pos + 6 + i) (be8 c.val)) ∧
    ∀ i, i < 4 → (s.header h).waiting[i]? = none → HasAt b (pos + 6 + i) [0xFF]

theorem headerAt {b : List Byte} {fields : List (List Byte)} {widths : List Nat} (row : HasFields b fields widths) {h : Header}
    (k : Nat) (at_k : fields[k]? = some (s.headerBlock h)) {pos : Nat} (place : (widths.take k).sum = pos) :
    HeaderAt s b h pos := by
  have block := headerBlock_fields s h
  subst place
  have holding : ∀ i, i < 2 → HasAt b ((widths.take k).sum + 1 + 2 * i) (holdingBytes (s.header h).holdings[i]?) := by
    intro i inside
    match i, inside with
    | 0, _ => exact row.sub k at_k block 1 rfl rfl
    | 1, _ => exact row.sub k at_k block 2 rfl rfl
  have waiter : ∀ i, i < 4 → ∀ y : Byte, ((s.header h).waiting.flatMap fun c => be8 c.val)[i]?.getD 0xFF = y →
      HasAt b ((widths.take k).sum + 6 + i) [y] := by
    intro i inside y at_i
    have here : HasAt (padTo 4 ((s.header h).waiting.flatMap fun c => be8 c.val)) i [y] :=
      hasAt_byte (by rw [padTo_getElem? _ inside, at_i])
    have part : HasAt (s.headerBlock h) (6 + i) [y] := block.within 4 rfl here (by rw [length_padTo]; exact inside) rfl
    exact row.within k at_k part (by rw [block.length (n := 10) rfl, List.length_singleton]; omega) (Nat.add_assoc ..).symm
  refine ⟨row.sub k at_k block 0 rfl rfl, fun i inside x there => ?_, fun i inside none => ?_, row.sub k at_k block 3 rfl rfl,
    fun i inside c there => waiter i inside _ ?_, fun i inside none => waiter i inside _ ?_⟩
  · have := holding i inside
    rwa [there] at this
  · have := holding i inside
    rwa [none] at this
  · rw [waiters_eq_map, List.getElem?_map, there]
    rfl
  · rw [waiters_eq_map, List.getElem?_map, none]
    rfl

/-- A pair's block: without a holder it is stopped, and with one it is as run for the holder. -/
theorem supplyBytes_free {p : SupplyPair} (free : (s.header (pairHeader p)).holdings = []) : s.supplyBytes p = [0, 0xFF, 0xFF] := by
  have none : s.holderOf p = none := by
    unfold State.holderOf State.holders
    rw [free]
    rfl
  unfold State.supplyBytes State.supplyOf
  rw [none]
  rfl

theorem supply_held {p : SupplyPair} {x : Holding} {l : List Holding} {w : WashContext}
    (held : (s.header (pairHeader p)).holdings = x :: l) (ctx : s.ctx x.slot = some w) :
    s.holderOf p = some x.slot ∧ s.supplyOf p = w.supply p := by
  have holder : s.holderOf p = some x.slot := by
    unfold State.holderOf State.holders
    rw [held]
    rfl
  refine ⟨holder, ?_⟩
  unfold State.supplyOf
  rw [holder, Option.bind_some, ctx]

/-- A pair's block stands at a position of a body. -/
def SupplyAt (s : State) (b : List Byte) (p : SupplyPair) (pos : Nat) : Prop :=
  ((s.header (pairHeader p)).holdings = [] → HasAt b pos [0, 0xFF, 0xFF]) ∧
    ∀ x l w, (s.header (pairHeader p)).holdings = x :: l → s.ctx x.slot = some w →
      HasAt b (pos + 2) (be8 x.slot.val) ∧
      match w.supply p with
      | .stopped => HasAt b pos [0, 0xFF]
      | .starting u _ _ => HasAt b pos (be8 1 ++ be8 (if u = .a then 0 else 1))
      | .running u _ => HasAt b pos (be8 2 ++ be8 (if u = .a then 0 else 1))

theorem supplyAt {b : List Byte} {fields : List (List Byte)} {widths : List Nat} (row : HasFields b fields widths)
    {p : SupplyPair} (k : Nat) (at_k : fields[k]? = some (s.supplyBytes p)) {pos : Nat} (place : (widths.take k).sum = pos) :
    SupplyAt s b p pos := by
  have block := supplyBytes_fields s p
  subst place
  refine ⟨fun free => ?_, fun x l w held ctx => ?_⟩
  · rw [supplyBytes_free free] at at_k
    exact row.at_ k at_k rfl
  · obtain ⟨holder, supply⟩ := supply_held held ctx
    rw [holder, supply] at block
    refine ⟨row.sub k at_k block 1 rfl rfl, ?_⟩
    have first := row.sub k at_k block 0 rfl rfl
    cases run : w.supply p with
    | stopped =>
      rw [run] at first
      exact first
    | starting u tried start =>
      rw [run] at first
      cases u <;> exact first
    | running u loss =>
      rw [run] at first
      cases u <;> exact first

/-- The free values that RESOURCE-READ draws. -/
theorem drawMargins_eq (t : State) :
    t.drawMargins = { t with free := if t.plant.tankReserve.isNone || t.plant.basinReserve.isNone then t.free + 1 else t.free } := by
  unfold State.drawMargins
  split <;> rfl

/-- Settles O31, from the layout of the shared plant. -/
theorem resourceReadReportsTheSharedPlant : Obligations.ResourceReadReportsTheSharedPlant := by
  intro s ready
  have passes : Passes s .resourceRead [] := ⟨ready, rfl, Nat.le_of_ble_eq_true rfl, rfl⟩
  have h := resourceBody_fields (taken s .resourceRead [])
  refine ⟨_, (taken s .resourceRead []).resourceBody, passes.grants (congrArg (accept · _) (drawMargins_eq _)), h.length rfl,
    fun x y tank basin => if_neg ?_, fun g pos m => ?_, fun p pos m => ?_, h.at_ 4 rfl rfl, h.at_ 6 rfl rfl, h.at_ 7 rfl rfl,
    h.at_ 8 rfl rfl, h.at_ 9 rfl rfl, fun i input => ?_, fun none => ?_, h.at_ 11 rfl rfl, fun i input => ?_, fun none => ?_,
    h.at_ 13 rfl rfl, fun i input => ?_, fun none => ?_, h.at_ 15 rfl rfl, h.at_ 16 rfl rfl, h.at_ 17 rfl rfl,
    fun x reserve => ?_, fun x reserve => ?_⟩
  · have tank : (taken s .resourceRead []).plant.tankReserve = some x := tank
    have basin : (taken s .resourceRead []).plant.basinReserve = some y := basin
    simp [tank, basin]
  · simp only [List.mem_cons, Prod.mk.injEq, List.not_mem_nil, or_false] at m
    rcases m with ⟨rfl, rfl⟩ | ⟨rfl, rfl⟩ | ⟨rfl, rfl⟩
    · exact headerAt h 0 rfl rfl
    · exact headerAt h 1 rfl rfl
    · exact headerAt h 2 rfl rfl
  · simp only [List.mem_cons, Prod.mk.injEq, List.not_mem_nil, or_false] at m
    rcases m with ⟨rfl, rfl⟩ | ⟨rfl, rfl⟩
    · exact supplyAt (p := .blowers) h 3 rfl rfl
    · exact supplyAt (p := .pumps) h 5 rfl rfl
  · have reported : (taken s .resourceRead []).pumpReadings = i := by
      unfold State.pumpReadings
      rw [show (taken s .resourceRead []).gbm.washNode.input = some i from input]
      rfl
    rw [reported] at h
    rw [← bitField_pair]
    exact h.at_ 10 rfl rfl
  · have reported : (taken s .resourceRead []).pumpReadings = ⟨false, false, 0, 0⟩ := by
      unfold State.pumpReadings
      rw [show (taken s .resourceRead []).gbm.washNode.input = Option.none from none]
      rfl
    rw [reported] at h
    exact h.at_ 10 rfl rfl
  · have reported : (taken s .resourceRead []).blowerReadings = i := by
      unfold State.blowerReadings
      rw [show (taken s .resourceRead []).gbm.airNode.input = some i from input]
      rfl
    rw [reported] at h
    rw [← bitField_pair]
    exact h.at_ 12 rfl rfl
  · have reported : (taken s .resourceRead []).blowerReadings = ⟨false, false, 0⟩ := by
      unfold State.blowerReadings
      rw [show (taken s .resourceRead []).gbm.airNode.input = Option.none from none]
      rfl
    rw [reported] at h
    exact h.at_ 12 rfl rfl
  · have reported : (taken s .resourceRead []).wasteReadings = i := by
      unfold State.wasteReadings
      rw [show (taken s .resourceRead []).gbm.wasteInput = some i from input]
      rfl
    rw [reported] at h
    exact h.at_ 14 rfl rfl
  · have reported : (taken s .resourceRead []).wasteReadings = ⟨0, false⟩ := by
      unfold State.wasteReadings
      rw [show (taken s .resourceRead []).gbm.wasteInput = Option.none from none]
      rfl
    rw [reported] at h
    exact h.at_ 14 rfl rfl
  · rw [show (taken s .resourceRead []).plant.tankReserve = some x from reserve] at h
    exact h.at_ 18 rfl rfl
  · rw [show (taken s .resourceRead []).plant.basinReserve = some x from reserve] at h
    exact h.at_ 19 rfl rfl

/-! ### NODE-READ and NODE-CLEAR (R155, R156) -/

theorem testBit_bitField (l : List Bool) (i : Nat) : (bitField l).testBit i = l.getD i false := by
  induction l generalizing i with
  | nil => exact Nat.zero_testBit i
  | cons b bs ih =>
    have half : ((if b then 1 else 0) + 2 * bitField bs) / 2 = bitField bs := by
      cases b
      · simp
      · simp
        omega
    cases i with
    | zero =>
      show ((if b then 1 else 0) + 2 * bitField bs).testBit 0 = b
      rw [Nat.testBit_zero]
      cases b <;> simp [Nat.add_mod]
    | succ i =>
      show ((if b then 1 else 0) + 2 * bitField bs).testBit (i + 1) = bs.getD i false
      rw [Nat.testBit_succ, half, ih]

theorem bitField_five_lt (a b c d e : Bool) : bitField [a, b, c, d, e] < 32 := by
  cases a <;> cases b <;> cases c <;> cases d <;> cases e <;> decide

/-- The address of a node. -/
def addressOf : NodeId → Nat
  | .filter f => f.val + 1
  | .washWater => 21
  | .airNode => 22
  | .waste => 23

theorem address_eq (n : NodeId) : n.address = addressOf n := by cases n <;> rfl

theorem nodeOfAddress?_of (n : NodeId) : nodeOfAddress? (u8 [BitVec.ofNat 8 (addressOf n)] 0) = some n := by
  cases n with
  | filter f =>
    have inside : u8 [BitVec.ofNat 8 (addressOf (.filter f))] 0 = f.val + 1 :=
      (BitVec.toNat_ofNat _ _).trans (Nat.mod_eq_of_lt (by show f.val + 1 < 2 ^ 8; omega))
    unfold nodeOfAddress?
    rw [inside, if_neg (by omega), if_neg (by omega), if_neg (by omega), filterOfNumber_some]
    rfl
  | washWater => rfl
  | airNode => rfl
  | waste => rfl

theorem nodeOfAddress?_none {a : Nat} (outside : a = 0 ∨ 23 < a) : nodeOfAddress? a = none := by
  unfold nodeOfAddress?
  rw [if_neg (by omega), if_neg (by omega), if_neg (by omega), filterOfNumber_none (by omega)]
  rfl

theorem inputBytes_eq (s : State) (n : NodeId) : s.inputBytes n = (inputPayload s n).getD [] := by
  cases n with
  | filter f =>
    simp only [State.inputBytes, inputPayload]
    cases (s.fnode f).input <;> rfl
  | washWater =>
    simp only [State.inputBytes, inputPayload]
    cases s.gbm.washNode.input with
    | none => rfl
    | some i =>
      simp only [PumpInput.bytes, bitField_pair]
      rfl
  | airNode =>
    simp only [State.inputBytes, inputPayload]
    cases s.gbm.airNode.input with
    | none => rfl
    | some i =>
      simp only [BlowerInput.bytes, bitField_pair]
      rfl
  | waste =>
    simp only [State.inputBytes, inputPayload]
    cases s.gbm.wasteInput <;> rfl

theorem length_inputPayload (s : State) (n : NodeId) : ((inputPayload s n).getD []).length ≤ 8 := by
  have bound : ∀ x : Option (List Byte), (∀ y, x = some y → y.length ≤ 8) → (x.getD []).length ≤ 8 := fun x short => by
    cases x with
    | none => exact Nat.zero_le _
    | some y => exact short y rfl
  refine bound _ fun y there => ?_
  cases n with
  | filter f =>
    obtain ⟨i, -, rfl⟩ := Option.map_eq_some_iff.1 there
    exact Nat.le_refl 8
  | washWater =>
    obtain ⟨i, -, rfl⟩ := Option.map_eq_some_iff.1 there
    exact Nat.le_of_ble_eq_true rfl
  | airNode =>
    obtain ⟨i, -, rfl⟩ := Option.map_eq_some_iff.1 there
    exact Nat.le_of_ble_eq_true rfl
  | waste =>
    obtain ⟨i, -, rfl⟩ := Option.map_eq_some_iff.1 there
    exact Nat.le_of_ble_eq_true rfl

theorem imageBytes_eq (s : State) (n : NodeId) : s.imageBytes n = imagePayload s n := by
  cases n with
  | filter f =>
    simp only [State.imageBytes, imagePayload]
    rw [valveBits_eq]
  | washWater =>
    simp only [State.imageBytes, imagePayload, PumpImage.bytes]
    rw [bitField_pair]
  | airNode =>
    simp only [State.imageBytes, imagePayload, BlowerImage.bytes]
    rw [bitField_pair]
  | waste => rfl

theorem length_imagePayload (s : State) (n : NodeId) : (imagePayload s n).length ≤ 3 := by
  cases n <;> exact Nat.le_of_ble_eq_true rfl

theorem length_totalizerBytes (s : State) (n : NodeId) : (s.totalizerBytes n).length = 4 := by
  cases n with
  | filter f => exact length_opt32 _
  | _ => rfl

theorem length_changeBytes (s : State) (n : NodeId) : (s.changeBytes n).length = 2 := by cases n <;> rfl

/-- The marks of a node. -/
def nodeFlags (s : State) (n : NodeId) : List Bool :=
  [s.polled n, (s.link n).lost, s.isOwed n, decide (s.gbm.phase = .awaiting n .writeIo), s.atCursor n]

/-- The 46 bytes of NODE-READ. -/
theorem nodeBody_fields (s : State) (n : NodeId) :
    HasFields (s.nodeBody n)
      [be8 (addressOf n), be8 (bitField (nodeFlags s n)), be8 (s.link n).misses, be16 (s.link n).totalMisses,
        opt8 ((s.link n).lastCode.map fun x => x.byte.toNat), opt32 ((s.link n).lastAnswer.map fun t => t.toNat),
        opt32 ((s.link n).lastAnswer.map fun t => (s.mc.seconds - t).toNat), opt8 ((s.link n).status.map fun x => x.toNat),
        (inputPayload s n).getD [] ++ List.replicate (8 - ((inputPayload s n).getD []).length) 0xFF,
        s.totalizerBytes n ++ s.changeBytes n, imagePayload s n ++ List.replicate (3 - (imagePayload s n).length) 0xFF,
        be8 s.gbm.settings.filterCount, be16 s.gbm.settings.scanPeriod, be8 s.gbm.settings.replyWindow,
        be8 s.gbm.settings.missLimit, be32 s.gbm.scanCount.toNat, be16 s.gbm.scansWithMiss, be16 s.gbm.overruns,
        opt8 (s.gbm.cursor.map fun f => f.val + 1)]
      [1, 1, 1, 2, 1, 4, 4, 1, 8, 6, 3, 1, 2, 1, 1, 4, 2, 2, 1] where
  row := by
    unfold State.nodeBody
    dsimp only
    rw [address_eq, inputBytes_eq, imageBytes_eq, padTo_eq (length_inputPayload s n), padTo_eq (length_imagePayload s n)]
    simp only [List.flatten_cons, List.flatten_nil, List.append_assoc, List.append_nil]
    rfl
  widths := by
    have input := length_inputPayload s n
    have image := length_imagePayload s n
    simp only [List.map_cons, List.map_nil, length_be8, length_be16, length_be32, length_opt8, length_opt32, List.length_append,
      List.length_replicate, length_totalizerBytes, length_changeBytes, Nat.add_sub_cancel' input, Nat.add_sub_cancel' image]

theorem polled_iff (s : State) (n : NodeId) : s.polled n = true ↔ isPolled s n := by
  cases n with
  | filter f => exact decide_eq_true_iff
  | washWater => exact iff_of_true rfl trivial
  | airNode => exact iff_of_true rfl trivial
  | waste => exact iff_of_true rfl trivial

theorem isOwed_iff (s : State) (n : NodeId) : s.isOwed n = true ↔ owes s n := by
  cases n with
  | waste => exact iff_of_false Bool.false_ne_true id
  | _ => exact Iff.rfl

theorem atCursor_iff (s : State) (n : NodeId) : s.atCursor n = true ↔ ∃ f, n = .filter f ∧ s.gbm.cursor = some f := by
  cases n <;> simp [State.atCursor]

/-- Settles O32, from the layout of a node table entry. -/
theorem nodeTableIsReadAndCleared : Obligations.NodeTableIsReadAndCleared := by
  intro s ready
  have read : ∀ b, Passes s .nodeRead [b] := fun b => ⟨ready, rfl, Nat.le_of_ble_eq_true rfl, rfl⟩
  refine ⟨fun survey => ?_, fun known => ?_, fun b outside => (read b).refuses ?_, fun n => ?_⟩
  · refine congrArg _ (State.receive_mode (k := .nodeClear) ready.1 ready.2 rfl (Nat.le_of_ble_eq_true rfl) ?_)
    rw [survey]
    rfl
  · have clear : Passes s .nodeClear [] := ⟨ready, rfl, Nat.le_of_ble_eq_true rfl, by simpa [Kind.accepted] using known⟩
    refine clear.grants ?_
    unfold State.clearCounters
    rw [mapEach_eq_map]
    rfl
  · have nobody : nodeOfAddress? (u8 [b] 0) = none := nodeOfAddress?_none outside
    simp only [nobody]
  · have named := nodeOfAddress?_of n
    have h := nodeBody_fields s n
    have bits := fun i => testBit_bitField (nodeFlags s n) i
    intro address l
    have address_is : address = addressOf n := by cases n <;> rfl
    clear_value address
    subst address_is
    refine ⟨s.nodeBody n, bitField (nodeFlags s n), (read _).grants ?_, h.length rfl, h.first, h.at_ 1 rfl rfl,
      bitField_five_lt .., (bits 0).symm ▸ polled_iff s n, bits 1, (bits 2).symm ▸ isOwed_iff s n,
      (bits 3).symm ▸ decide_eq_true_iff, (bits 4).symm ▸ atCursor_iff s n, h.at_ 2 rfl rfl, h.at_ 3 rfl rfl, ?_, h.at_ 5 rfl rfl,
      h.at_ 6 rfl rfl, h.at_ 7 rfl rfl, h.at_ 8 rfl rfl, fun f filter => ?_, fun supply => ?_, h.at_ 10 rfl rfl, h.at_ 11 rfl rfl,
      h.at_ 12 rfl rfl, h.at_ 13 rfl rfl, h.at_ 14 rfl rfl, h.at_ 15 rfl rfl, h.at_ 16 rfl rfl, h.at_ 17 rfl rfl,
      h.at_ 18 rfl rfl⟩
    · simp only [named]
      rfl
    · have code := h.at_ 4 (pos := 5) rfl rfl
      show HasAt _ 5 (opt8 ((s.link n).lastCode.map _))
      cases last : (s.link n).lastCode with
      | none =>
        rw [last] at code
        exact code
      | some x =>
        rw [last] at code
        cases x <;> exact code
    · subst filter
      have pair := HasFields.pair (s.totalizerBytes (.filter f)) (s.changeBytes (.filter f))
      rw [length_totalizerBytes, length_changeBytes] at pair
      exact ⟨h.sub 9 rfl pair 0 rfl rfl, h.sub 9 rfl pair 1 rfl rfl⟩
    · have there := h.at_ 9 (pos := 23) rfl rfl
      cases n with
      | filter f => exact absurd rfl (supply f)
      | _ => exact there

end Sys2Proof.Claim

/-! Notices, the floor, changes of a filter's state, and the admission of a START (R26, R36, R49, R56, R60, R73, R171). -/

namespace Sys2Proof.Claim

open Sys2Proof.Machine Sys2Proof.Safety

variable {s : State} {f : FilterId} {c : Slot} {w : WashContext}

/-! ### Notices (R171, R174) -/

theorem raise_disabled {k : NoticeKind} (off : s.cs.working.enables.getLsbD k.index.val = false) (n : Nat) : s.raise k n = s :=
  if_neg (ne_true_of_eq_false off)

/-- A kind that has just occurred is pending. -/
theorem anyPending_set (u : NoticeUnit) (k : Fin 12) (x : NoticeAccount) (pending : x.pending = true) :
    NoticeUnit.anyPending { u with accounts := u.accounts.set k.val x } = true := by
  rw [anyPending_eq]
  refine decide_eq_true ⟨k, ?_⟩
  rw [Vector.getElem_set_self]
  exact pending

theorem raise_enabled {k : NoticeKind} (on : s.cs.working.enables.getLsbD k.index.val = true) (n : Nat) :
    s.raise k n = { s with nu := { s.nu with
      accounts := s.nu.accounts.set k.index.val ⟨true,
        if (s.nu.accounts[k.index.val]).count < 255 then (s.nu.accounts[k.index.val]).count + 1 else 255, n⟩
      attnDriven := !s.nu.attnGap } } := by
  refine (if_pos on).trans ?_
  unfold NoticeUnit.updateAttn
  rw [anyPending_set _ _ _ rfl, Bool.true_and]
  rfl

/-! ### The floor (R49) -/

theorem evalFloor_outside (h : s.mc.mode = .survey ∨ s.gbm.settings.filterCount = 0) : s.evalFloor = s := by
  refine if_pos ?_
  rw [Bool.or_eq_true, decide_eq_true_iff, decide_eq_true_iff]
  exact h

theorem evalFloor_inside (mode : s.mc.mode ≠ .survey) (count : s.gbm.settings.filterCount ≠ 0) :
    (decide (inServiceCount s < s.au.required) = s.au.breach → s.evalFloor = s) ∧
      (decide (inServiceCount s < s.au.required) ≠ s.au.breach →
        s.evalFloor = State.raise { s with au := { s.au with breach := decide (inServiceCount s < s.au.required) } } .floor 0) := by
  have now : s.evalFloor = s.evalFloorNow := by
    refine if_neg ?_
    rw [Bool.or_eq_true, decide_eq_true_iff, decide_eq_true_iff]
    exact fun h => h.elim mode count
  rw [now]
  exact ⟨fun same => if_pos same, fun other => if_neg other⟩

/-! ### Changes of a filter's state (R26, R36) -/

theorem changeState_same {st : FilterState} (h : (s.filter f).state = st) : s.changeState f st = s := if_pos h

theorem discardsEntry_iff (st : FilterState) :
    st.discardsEntry = true ↔ st ∈ [FilterState.unknown, .fault, .localCtl, .unused] := by cases st <;> simp [FilterState.discardsEntry]

/-- The queue after a change of a filter's state. -/
def queueWithout (q : WashQueue) (f : FilterId) : WashQueue :=
  if ∃ e ∈ q.entries, e.filter = f then
    { entries := q.entries.filter fun e => e.filter != f, changeNumber := q.changeNumber + 1 }
  else q

theorem removeEntry_explicit (s : State) (f : FilterId) : s.removeEntry f = { s with wq := queueWithout s.wq f } := by
  unfold State.removeEntry queueWithout
  simp only [entry?_isSome_iff]
  split <;> rfl

theorem changeState_of_ne {st : FilterState} (h : (s.filter f).state ≠ st) :
    s.changeState f st = State.evalFloor { s with
      ft := { records := s.ft.records.set f.val { s.filter f with state := st } }
      te := if (s.filter f).state = .service then
          { triggers := s.te.triggers.set f.val ⟨.armed, .armed, false, false⟩ }
        else s.te
      wq := if st ∈ [FilterState.unknown, .fault, .localCtl, .unused] ∧ ∃ e ∈ s.wq.entries, e.filter = f then
          { entries := s.wq.entries.filter fun e => e.filter != f, changeNumber := s.wq.changeNumber + 1 }
        else s.wq } := by
  refine (if_neg h).trans (congrArg State.evalFloor ?_)
  have queue : ∀ t : State, t.wq = s.wq → t.removeEntry f = { t with wq := queueWithout s.wq f } := fun t same => by
    rw [removeEntry_explicit, same]
  have after : (if st ∈ [FilterState.unknown, .fault, .localCtl, .unused] ∧ ∃ e ∈ s.wq.entries, e.filter = f then
        { entries := s.wq.entries.filter fun e => e.filter != f, changeNumber := s.wq.changeNumber + 1 }
      else s.wq) = if st.discardsEntry then queueWithout s.wq f else s.wq := by
    unfold queueWithout
    by_cases discards : st.discardsEntry = true
    · simp only [(discardsEntry_iff st).1 discards, true_and, if_pos discards]
    · rw [if_neg discards, if_neg fun both => discards ((discardsEntry_iff st).2 both.1)]
  have leaves : s.inService f = true ↔ (s.filter f).state = .service := decide_eq_true_iff
  rw [after]
  simp only [leaves]
  by_cases service : (s.filter f).state = .service <;> by_cases discards : st.discardsEntry = true
  · simp only [if_pos service, if_pos discards]
    refine (queue _ ?_).trans ?_
    · rfl
    · rfl
  · simp only [if_pos service, if_neg discards]
    rfl
  · simp only [if_neg service, if_pos discards]
    refine (queue _ ?_).trans ?_
    · rfl
    · rfl
  · simp only [if_neg service, if_neg discards]
    rfl

/-- Settles O51. -/
theorem noticesFloorAndStateChanges : Obligations.NoticesFloorAndStateChanges := fun _ =>
  ⟨fun _ n => ⟨fun off => raise_disabled off n, fun on => raise_enabled on n⟩, evalFloor_outside, evalFloor_inside,
    fun _ _ => ⟨changeState_same, changeState_of_ne⟩⟩

/-! ### The copy of a profile (R71, R73, R89) -/

/-- Induction on a list from its end. -/
theorem append_induction {α : Type} {motive : List α → Prop} (nil : motive [])
    (append_singleton : ∀ l a, motive l → motive (l ++ [a])) (l : List α) : motive l := by
  have reversed : ∀ m : List α, motive m.reverse := fun m => by
    induction m with
    | nil => exact nil
    | cons a m ih =>
      rw [List.reverse_cons]
      exact append_singleton _ a ih
  exact l.reverse_reverse ▸ reversed l.reverse

theorem lastWaterIndex_append (steps : List ProfileStep) (p : ProfileStep) :
    lastWaterIndex (steps ++ [p]) = if p.kind.isWater then steps.length else lastWaterIndex steps := by
  unfold lastWaterIndex
  rw [List.zipIdx_append, List.foldl_append, Nat.zero_add]
  rfl

/-- The last water step, and no water step behind it. -/
theorem lastWaterIndex_spec (steps : List ProfileStep) :
    ((∃ p, steps[lastWaterIndex steps]? = some p ∧ IsWater p) ∨ (lastWaterIndex steps = 0 ∧ ∀ p ∈ steps, ¬ IsWater p)) ∧
      ∀ i p, lastWaterIndex steps < i → steps[i]? = some p → ¬ IsWater p := by
  induction steps using append_induction with
  | nil => exact ⟨.inr ⟨rfl, nofun⟩, nofun⟩
  | append_singleton steps p ih =>
    obtain ⟨last, later⟩ := ih
    rw [lastWaterIndex_append]
    by_cases water : p.kind.isWater = true
    · rw [if_pos water]
      refine ⟨.inl ⟨p, by simp, (kind_isWater_iff p).1 water⟩, fun i q behind at_i => ?_⟩
      rw [List.getElem?_eq_none (by simp; omega)] at at_i
      cases at_i
    · rw [if_neg water]
      have dry : ¬ IsWater p := mt (kind_isWater_iff p).2 water
      refine ⟨?_, fun i q behind at_i => ?_⟩
      · rcases last with ⟨q, at_last, wet⟩ | ⟨zero, none⟩
        · obtain ⟨inside, -⟩ := List.getElem?_eq_some_iff.1 at_last
          exact .inl ⟨q, by rw [List.getElem?_append_left inside, at_last], wet⟩
        · refine .inr ⟨zero, fun q m => ?_⟩
          rcases List.mem_append.1 m with m | m
          · exact none q m
          · rwa [List.mem_singleton.1 m]
      · rw [List.getElem?_append] at at_i
        split at at_i
        · exact later i q behind at_i
        · have same : q = p := by
            have m := List.mem_of_getElem? at_i
            exact List.mem_singleton.1 m
          rwa [same]

theorem copyProfile_copyOf (n rate : Nat) (steps : List ProfileStep) : CopyOf (copyProfile n rate steps) n rate steps :=
  ⟨rfl, rfl, rfl, rfl, lastWaterIndex_spec steps⟩

/-! ### An admission (R56) -/

theorem changeState_te (s : State) (f : FilterId) {st : FilterState} (h : (s.filter f).state ≠ st) :
    (s.changeState f st).te = if (s.filter f).state = .service then
      { triggers := s.te.triggers.set f.val ⟨.armed, .armed, false, false⟩ } else s.te := by
  rw [changeState_of_ne h, State.evalFloor_eq]

theorem changeState_wq (s : State) (f : FilterId) {st : FilterState} (kept : st.discardsEntry = false) :
    (s.changeState f st).wq = s.wq := by
  by_cases h : (s.filter f).state = st
  · rw [changeState_same h]
  · rw [changeState_of_ne h, State.evalFloor_eq]
    refine if_neg fun both => ?_
    rw [← discardsEntry_iff, kept] at both
    exact Bool.false_ne_true both.1

theorem queueWithout_entries (q : WashQueue) (f : FilterId) :
    (queueWithout q f).entries = q.entries.filter fun e => e.filter != f := by
  unfold queueWithout
  split
  · rfl
  · rename_i absent
    exact (List.filter_eq_self.2 fun e m => bne_iff_ne.2 fun same => absent ⟨e, m, same⟩).symm

/-- What the taking of a filter to WASH writes. -/
structure ToWash (s : State) (f : FilterId) (v : State) : Prop where
  contexts : v.ss = s.ss
  records  : v.ft.records = s.ft.records.set f.val { s.filter f with
    state := .wash, held := none, pending := none, offCounts := PerValve.all false, rewashPending := false }
  bus      : v.gbm = s.gbm
  queue    : v.wq.entries = s.wq.entries.filter fun e => e.filter != f
  plant    : v.ra = s.ra
  required : v.au.required = s.au.required
  shed     : v.au.shed = s.au.shed
  leaves   : (s.filter f).state = .service → v.te.triggers = s.te.triggers.set f.val ⟨.armed, .armed, false, false⟩
  stays    : (s.filter f).state = .held → v.te = s.te
  list     : v.wr = s.wr
  store    : v.cs = s.cs
  control  : v.mc = s.mc

theorem toWash (inRotation : (s.filter f).state = .service ∨ (s.filter f).state = .held) :
    ToWash s f ((s.removeEntry f).takeToWash f) := by
  have other : (s.filter f).state ≠ .wash := by rcases inRotation with h | h <;> rw [h] <;> exact nofun
  rw [removeEntry_explicit]
  unfold State.takeToWash
  generalize marked : State.modFilter _ f _ = m
  have state : (m.filter f).state = (s.filter f).state := by
    rw [← marked, State.filter_modFilter_same]
    rfl
  have te := changeState_te m f (st := .wash) (by rw [state]; exact other)
  rw [state] at te
  have au : (m.changeState f .wash).au = { m.au with breach := (m.changeState f .wash).au.breach } := by rw [State.changeState_eq]
  have ft : (m.changeState f .wash).ft.records = m.ft.records.set f.val { m.filter f with state := .wash } := by
    rw [State.changeState_eq]
    rfl
  have wq := changeState_wq m f (st := .wash) rfl
  have ss := m.changeState_ss f .wash
  have gbm := m.changeState_gbm f .wash
  have ra := m.changeState_ra f .wash
  have wr := m.changeState_wr f .wash
  have cs := m.changeState_cs f .wash
  have mc := m.changeState_mc f .wash
  generalize m.changeState f .wash = v at te au ft wq ss gbm ra wr cs mc ⊢
  subst marked
  have required := congrArg AdmissionUnit.required au
  have shed := congrArg AdmissionUnit.shed au
  refine ⟨ss, ?_, gbm, ?_, ra, required, shed,
    fun service => ?_, fun held => ?_, wr, cs, mc⟩
  · rw [ft, State.filter_modFilter_same]
    exact Vector.set_set ..
  · rw [wq]
    exact queueWithout_entries ..
  · rw [te, if_pos service]
    rfl
  · rw [te, if_neg (by rw [held]; exact nofun)]
    rfl

/-- A START's context in SETTING of its DRAIN step, at admission in ACQUIRE of it. -/
theorem newContext_begun (s : State) (f : FilterId) (copy : ProfileCopy) :
    { begun s (newContext f (s.admissionEntry f) copy s.now (s.filter f).rewashPending) 0 with phase := .setting } =
      admitted s f copy := by
  unfold newContext begun admitted State.admissionEntry State.entry?
  cases s.wq.entries.find? fun e => e.filter = f <;> rfl

theorem raise_washStart {f : FilterId} (on : s.cs.working.enables.getLsbD 0 = true) :
    ((s.raise .washStart (filterNumber f)).nu.accounts[0]).pending = true ∧
      ((s.raise .washStart (filterNumber f)).nu.accounts[0]).lastFilter = f.val + 1 := by
  rw [raise_enabled (k := .washStart) on]
  refine ⟨?_, ?_⟩
  · exact congrArg NoticeAccount.pending (Vector.getElem_set_self ..)
  · exact congrArg NoticeAccount.lastFilter (Vector.getElem_set_self ..)

/-- The state that an admission leaves (R56), from the state in which the filter is in WASH. -/
def admittedFrom (v : State) (f : FilterId) (c : Slot) (copy : ProfileCopy) (w : WashContext) : State :=
  settingFrom ((((v.commit copy).setCtx c (some w)).noteAdmission f).raise .washStart (filterNumber f)) c w 0

/-- A DRAIN step needs no header, and so enters SETTING at once. -/
theorem beginStep_drain {i : Nat} (ctx : s.ctx c = some w) (drain : kindAt w i = some .drain) :
    s.beginStep c i = settingFrom s c w i := by
  have needs : headersOf (kindAt (begun s w i) (begun s w i).stepIndex) = [] := congrArg headersOf drain
  rw [beginStep_eq ctx, acquire_of_held (inSlot_ctx s c _) (by rw [needs]; exact fun _ m => absurd m List.not_mem_nil),
    enteredSetting_begun]

theorem kindAt_newContext {steps : List ProfileStep} {p : ProfileStep} (first : steps[0]? = some p) (e : QueueEntry)
    (number rate : Nat) (now : Seconds) (second : Bool) :
    kindAt (newContext f e (copyProfile number rate steps) now second) 0 = some p.kind := by
  unfold kindAt
  refine (congrArg _ (List.getElem?_map ..)).trans ?_
  rw [first]
  rfl

theorem admitFilter_eq {number : Nat} {steps : List ProfileStep} {p : ProfileStep} (first : steps[0]? = some p)
    (drain : p.kind = .drain) :
    s.admitFilter f c number steps =
      admittedFrom ((s.removeEntry f).takeToWash f) f c (copyProfile number s.plant.ftwRate steps)
        (newContext f (s.admissionEntry f) (copyProfile number s.plant.ftwRate steps) ((s.removeEntry f).takeToWash f).now
          (s.filter f).rewashPending) := by
  unfold State.admitFilter admittedFrom
  generalize (s.removeEntry f).takeToWash f = v
  refine beginStep_drain ?_ ((kindAt_newContext first ..).trans (congrArg some drain))
  rw [State.raise_eq]
  exact State.ctx_setCtx_same ..

/-- A DRAIN step in SETTING: the progress mark stays as it is. -/
theorem settingFrom_drain {i : Nat} (drain : kindAt w i = some .drain) :
    settingFrom s c w i = { inSlot s c { begun s w i with phase := .setting } with
      ft := { records := s.ft.records.set w.filter.val { s.filter w.filter with commanded := some .drain } }
      gbm := { s.gbm with
        filterNodes := s.gbm.filterNodes.set w.filter.val
          { s.fnode w.filter with image := Pattern.drain.image, owed := true } } } := by
  have mark : (if w.progress = .none ∧ (kindAt w i = some .air ∨ kindAt w i = some .airwater ∨ kindAt w i = some .water)
      then Progress.airwaterBegun else w.progress) = w.progress :=
    if_neg fun water => by simp [drain] at water
  unfold settingFrom
  simp only [mark]
  simp only [drain]
  rfl

/-- What an admission writes, from the state in which the filter is in WASH. -/
theorem admittedFrom_spec {v : State} {copy : ProfileCopy} (h : ToWash s f v) (drain : kindAt w 0 = some .drain) :
    let t := admittedFrom v f c copy w
    t.ss.contexts = s.ss.contexts.set c.val (some { begun s w 0 with phase := .setting }) ∧
    (w.filter = f → t.ft.records = s.ft.records.set f.val { s.filter f with
        state := .wash, held := none, pending := none, offCounts := PerValve.all false, rewashPending := false
        commanded := some .drain } ∧
      t.gbm = { s.gbm with
        filterNodes := s.gbm.filterNodes.set f.val { s.fnode f with image := Pattern.drain.image, owed := true } }) ∧
    t.wq = v.wq ∧
    t.ra = { s.ra with tankTotal := s.ra.tankTotal + copy.waterDemand, basinTotal := s.ra.basinTotal + copy.wasteDemand } ∧
    t.au.lastAdmission = some s.mc.seconds ∧ t.au.lastCheck = .admitted f ∧ t.au.required = s.au.required ∧
    t.au.shed = s.au.shed ∧ t.te = v.te ∧
    (s.cs.working.enables.getLsbD 0 = true →
      (t.nu.accounts[0]).pending = true ∧ (t.nu.accounts[0]).lastFilter = f.val + 1) ∧
    t.wr = s.wr ∧ t.cs = s.cs ∧ t.mc = s.mc := by
  obtain ⟨contexts, records, bus, -, plant, required, shed, -, -, list, store, control⟩ := h
  have now : v.now = s.now := congrArg ModeControl.seconds control
  have filter : v.filter f = { s.filter f with
      state := .wash, held := none, pending := none, offCounts := PerValve.all false, rewashPending := false } :=
    (congrArg (fun r => r[f.val]) records).trans (Vector.getElem_set_self ..)
  unfold admittedFrom
  have noticed := raise_washStart (s := ((v.commit copy).setCtx c (some w)).noteAdmission f) (f := f)
  rw [State.raise_eq]
  generalize (State.raise _ NoticeKind.washStart (filterNumber f)).nu = nu at noticed ⊢
  rw [settingFrom_drain drain]
  refine ⟨?_, fun names => ⟨?_, ?_⟩, rfl, ?_, congrArg some now, rfl, required, shed, rfl, fun on => noticed ?_, list, store,
    control⟩
  · show (v.ss.contexts.set c.val (some w)).set c.val
      (some { w with stepIndex := 0, phase := .setting, stepStart := v.now, phaseStart := v.now, fallbackUsed := false
                     answered := false }) = _
    rw [Vector.set_set, contexts, now]
    rfl
  · subst names
    show v.ft.records.set w.filter.val { v.filter w.filter with commanded := some .drain } = _
    rw [filter, records, Vector.set_set]
  · subst names
    show ({ v.gbm with
      filterNodes := v.gbm.filterNodes.set w.filter.val { v.fnode w.filter with image := Pattern.drain.image, owed := true }
      } : BusMaster) = _
    unfold State.fnode
    rw [bus]
  · show { v.ra with tankTotal := v.ra.tankTotal + copy.waterDemand, basinTotal := v.ra.basinTotal + copy.wasteDemand } = _
    rw [plant]
  · show v.cs.working.enables.getLsbD 0 = true
    rw [store]
    exact on

/-- What an admission of a filter in rotation leaves (R56). -/
structure Admission (s : State) (f : FilterId) (c : Slot) (copy : ProfileCopy) (t : State) : Prop where
  contexts : t.ss.contexts = s.ss.contexts.set c.val (some (admitted s f copy))
  records  : t.ft.records = s.ft.records.set f.val { s.filter f with
    state := .wash, held := none, pending := none, offCounts := PerValve.all false, rewashPending := false
    commanded := some .drain }
  bus      : t.gbm = { s.gbm with
    filterNodes := s.gbm.filterNodes.set f.val { s.fnode f with image := Pattern.drain.image, owed := true } }
  queue    : t.wq.entries = s.wq.entries.filter fun e => e.filter != f
  volumes  : t.ra = { s.ra with
    tankTotal := s.ra.tankTotal + copy.waterDemand, basinTotal := s.ra.basinTotal + copy.wasteDemand }
  last     : t.au.lastAdmission = some s.mc.seconds
  check    : t.au.lastCheck = .admitted f
  required : t.au.required = s.au.required
  shed     : t.au.shed = s.au.shed
  leaves   : (s.filter f).state = .service → t.te.triggers = s.te.triggers.set f.val ⟨.armed, .armed, false, false⟩
  stays    : (s.filter f).state = .held → t.te = s.te
  notice   : s.cs.working.enables.getLsbD 0 = true →
    (t.nu.accounts[0]).pending = true ∧ (t.nu.accounts[0]).lastFilter = f.val + 1
  list     : t.wr = s.wr
  store    : t.cs = s.cs
  control  : t.mc = s.mc

theorem Admission.ctx {copy : ProfileCopy} {t : State} (h : Admission s f c copy t) : t.ctx c = some (admitted s f copy) := by
  unfold State.ctx
  rw [h.contexts]
  exact Vector.getElem_set_self ..

theorem admitFilter_spec {number : Nat} {steps : List ProfileStep} {p : ProfileStep} (first : steps[0]? = some p)
    (drain : p.kind = .drain) (inRotation : (s.filter f).state = .service ∨ (s.filter f).state = .held) :
    Admission s f c (copyProfile number s.plant.ftwRate steps) (s.admitFilter f c number steps) := by
  rw [admitFilter_eq first drain]
  generalize copied : copyProfile number s.plant.ftwRate steps = copy
  have washes := toWash (s := s) inRotation
  generalize (s.removeEntry f).takeToWash f = v at washes
  have now : v.now = s.now := congrArg ModeControl.seconds washes.control
  have kind : kindAt (newContext f (s.admissionEntry f) copy s.now (s.filter f).rewashPending) 0 = some .drain := by
    rw [← copied]
    exact (kindAt_newContext first ..).trans (congrArg some drain)
  have context := newContext_begun s f copy
  rw [now]
  obtain ⟨contexts, own, queue, plant, last, check, required, shed, te, noticed, list, store, control⟩ :=
    admittedFrom_spec (c := c) (copy := copy) washes kind
  obtain ⟨records, bus⟩ := own rfl
  generalize admittedFrom v f c _ _ = t at *
  rw [context] at contexts
  exact ⟨contexts, records, bus, (congrArg WashQueue.entries queue).trans washes.queue, plant, last, check, required, shed,
    fun service => (congrArg TriggerUnit.triggers te).trans (washes.leaves service),
    fun held => te.trans (washes.stays held), noticed, list, store, control⟩

/-- The first step of a valid profile is a DRAIN step. -/
theorem first_of_valid {steps : List ProfileStep} (valid : failingIndex steps = none) :
    ∃ p, steps[0]? = some p ∧ p.kind = .drain := by
  obtain ⟨pass, p, present, -⟩ := (failingIndex_eq_none_iff steps).1 valid
  have positive : 0 < steps.length := List.length_pos_of_mem present
  obtain ⟨-, first, -, -⟩ := pass 0 _ positive (List.getElem?_eq_getElem positive)
  exact ⟨_, List.getElem?_eq_getElem positive, first rfl⟩

theorem startWith_of_pass {n : Nat} {steps : List ProfileStep} (slot : SlotGate s) (floor : FloorGate s)
    (supply : SupplyGate s) (volume : VolumeTest s steps) (free : s.ctx c = none) (lowest : ∀ d, d < c → s.ctx d ≠ none) :
    s.startWith f n steps = accept (s.admitFilter f c n steps) ((s.admitFilter f c n steps).startBody c) := by
  rw [State.startWith, if_neg (guard_false_of (slotGate_iff s) slot), if_neg (guard_false_of (floorGate_iff s) floor),
    if_neg (guard_false_of (supplyGate_iff s) supply), if_neg (guard_false_of (volumeTest_iff s steps) volume)]
  simp only [freeSlot?_of_lowest free lowest]

theorem startBody_of_admitted {copy : ProfileCopy} {t : State} (ctx : t.ctx c = some (admitted s f copy)) :
    t.startBody c = be8 c.val ++ be8 (admitted s f copy).cls.code ++ be8 (admitted s f copy).causes.bits ++
      be32 s.mc.seconds.toNat ++ be16 copy.waterDemand ++ be16 copy.wasteDemand := by
  unfold State.startBody
  simp only [ctx]
  rfl

/-- Settles O48. -/
theorem startAdmitsTheFilter : Obligations.StartAdmitsTheFilter := by
  intro s f x steps c ready hold startable settings profile valid slot floor supply volume free lowest
  obtain ⟨p, first, drain⟩ := first_of_valid valid
  have passes : Passes s .start [filterByte f] := ⟨ready, rfl, Nat.le_of_ble_eq_true rfl, decide_eq_true hold⟩
  have names : Names (taken s .start [filterByte f]) f x.profile steps := ⟨x, settings, rfl, profile⟩
  have spec : Admission (taken s .start [filterByte f]) f c (copyProfile x.profile s.plant.ftwRate steps) _ :=
    admitFilter_spec (number := x.profile) first drain startable.1
  have decided : State.startFilter (taken s .start [filterByte f]) f = accept _ _ :=
    (startFilter_of_valid (s := taken s .start [filterByte f]) startable names valid).trans
      (startWith_of_pass (s := taken s .start [filterByte f]) slot floor supply volume free lowest)
  generalize State.admitFilter (taken s .start [filterByte f]) f c x.profile steps = t at spec decided
  refine ⟨t, copyProfile x.profile s.plant.ftwRate steps, copyProfile_copyOf .., ?_, spec.contexts, spec.records, spec.bus,
    spec.queue, spec.volumes, spec.last, spec.check, spec.required, spec.shed, spec.leaves, spec.stays, spec.notice, spec.list,
    spec.store, spec.control⟩
  rw [startBody_of_admitted spec.ctx] at decided
  exact passes.grants ((withFilter_byte ..).trans decided)

end Sys2Proof.Claim

/-! SUPPORT. The supplies and the flow of a wash as the statements write them out (R80, R99 to R101, R103, R105), and the tests
of an orphan's holdings (R110, R111). -/

namespace Sys2Proof.Claim

open Sys2Proof.Machine Sys2Proof.Safety

variable {s : State} {c : Slot} {w : WashContext}

/-! ### Starting a supply (R99, R100) -/

theorem startCause_eq (p : SupplyPair) : startCause p = startCauseOf p := by cases p <;> rfl

theorem feedback_eq_runs (s : State) (p : SupplyPair) (u : UnitId) : s.feedback p u = runs s p u := by
  cases p
  · unfold State.feedback runs
    cases u <;> cases s.gbm.airNode.input <;> rfl
  · unfold State.feedback runs
    cases u <;> cases s.gbm.washNode.input <;> rfl

theorem setDuty_eq_onDuty (s : State) (p : SupplyPair) (u : UnitId) : s.setDuty p u = onDuty s p u := by cases p <;> rfl

/-- The duty unit, or the other, passing over a flagged one. -/
theorem chooseUnit_eq (s : State) (p : SupplyPair) : s.chooseUnit p = unitFor s p := by
  have negated (b : Bool) : (!b) = true ↔ b = false := by rw [Bool.not_eq_true']
  unfold State.chooseUnit unitFor
  simp only [negated, other_eq]
  cases p <;> rfl

theorem startUnit_eq {p : SupplyPair} (ctx : (s.writeUnits p (UnitSet.only u)).ctx c = some w) (tried : UnitSet) :
    s.startUnit c p u tried = startingWith s c w p u tried := by
  unfold State.startUnit startingWith
  rw [State.modCtx_some ctx, only_eq]

theorem writeUnits_ctx (s : State) (p : SupplyPair) (x : UnitSet) (c : Slot) : (s.writeUnits p x).ctx c = s.ctx c := by
  cases p <;> rfl

theorem startSupply_eq (s : State) (c : Slot) (p : SupplyPair) : s.startSupply c p = supplyTaken s c p := by
  unfold State.startSupply supplyTaken
  cases ctx : s.ctx c with
  | none => exact State.withCtx_none ctx _
  | some w =>
    rw [State.withCtx_some ctx, chooseUnit_eq]
    simp only [Bool.and_eq_true, decide_eq_true_iff]
    by_cases needed : w.state = .active ∧ w.supply p = .stopped
    · rw [if_pos needed, if_pos needed]
      cases unitFor s p with
      | none => exact (decideExit_eq ctx needed.1 _ _).trans (by rw [startCause_eq])
      | some u => exact (startUnit_eq ((writeUnits_ctx ..).trans ctx) _).trans (by rw [only_eq])
    · rw [if_neg needed, if_neg needed]

/-! ### STARTING and what follows it (R80, R81) -/

theorem pairs_eq_pairsOf (w : WashContext) : w.pairs = pairsOf (kindAt w w.stepIndex) := by
  unfold WashContext.pairs
  rw [needs_eq_headersOf, ← kindAt_stepIndex]
  cases kindAt w w.stepIndex with
  | none => rfl
  | some k => cases k <;> rfl

theorem enterTiming_eq (ctx : s.ctx c = some w) : s.enterTiming c = inTiming s c w := State.modCtx_some ctx _

theorem enterRamping_eq (ctx : s.ctx c = some w) : s.enterRamping c = inRamping s c w := by
  unfold State.enterRamping
  rw [State.withCtx_some ctx]
  rfl

theorem checkStarted_eq (s : State) (c : Slot) : s.checkStarted c = onceRunning s c := by
  unfold State.checkStarted onceRunning
  cases ctx : s.ctx c with
  | none => exact State.withCtx_none ctx _
  | some w =>
    rw [State.withCtx_some ctx, enterTiming_eq ctx, enterRamping_eq ctx, pairs_eq_pairsOf, ← kindAt_stepIndex]
    simp only [Bool.and_eq_true, decide_eq_true_iff, List.all_eq_true, and_assoc]

theorem enterStarting_eq (ctx : s.ctx c = some w) : s.enterStarting c = inStarting s c w := by
  unfold State.enterStarting inStarting
  rw [State.withCtx_some ctx, checkStarted_eq, pairs_eq_pairsOf]
  simp only [startSupply_eq]
  rfl

/-! ### The watches of a supply (R100, R101) -/

theorem failUnit_ctx (s : State) (p : SupplyPair) (u : UnitId) (c : Slot) : (s.failUnit p u).ctx c = s.ctx c :=
  (Calm.failUnit s p u).ctx c

theorem runLoss_eq (ctx : s.ctx c = some w) (p : SupplyPair) (u : UnitId) : s.runLoss c p u = unitLost s c w p u := by
  have written (x : UnitSet) : ((s.failUnit p u).writeUnits p x).ctx c = some w :=
    (writeUnits_ctx ..).trans ((failUnit_ctx ..).trans ctx)
  unfold State.runLoss unitLost
  simp only []
  rw [unitFaults_failUnit, other_eq, startUnit_eq (written _), State.startFailed, State.modCtx_some (written _),
    decideExit_eq_exitIfActive, startCause_eq]
  exact ite_congr (by rw [Bool.not_eq_true']) (fun _ => rfl) fun _ => rfl

theorem superviseSupply_eq (s : State) (c : Slot) (p : SupplyPair) : s.superviseSupply c p = supplyWatched s c p := by
  unfold State.superviseSupply supplyWatched
  cases ctx : s.ctx c with
  | none => exact State.withCtx_none ctx _
  | some w =>
    rw [State.withCtx_some ctx]
    cases supply : w.supply p with
    | stopped => simp only [supply]
    | starting u tried start =>
      simp only [supply]
      rw [feedback_eq_runs, setDuty_eq_onDuty, checkStarted_eq, other_eq]
      exact ite_congr rfl (fun _ => rfl) fun _ => rfl
    | running u loss =>
      simp only [supply]
      rw [feedback_eq_runs, runLoss_eq ctx]
      exact ite_congr rfl (fun _ => rfl) fun _ => rfl

/-! ### The watches of the flow (R103, R105) -/

theorem headerFlow_eq (s : State) : s.headerFlow = flowNow s := by
  unfold State.headerFlow flowNow
  cases s.gbm.washNode.input <;> rfl

theorem usesWater_iff (w : WashContext) :
    w.usesWater = true ↔ kindAt w w.stepIndex = some .water ∨ kindAt w w.stepIndex = some .airwater := by
  unfold WashContext.usesWater
  rw [← kindAt_stepIndex]
  cases kindAt w w.stepIndex with
  | none => simp
  | some k => cases k <;> simp [StepKind.isWater]

theorem watchRamp_eq {x : WashContext} (ctx : s.ctx c = some x) : s.watchRamp c = flowWatched s c .ramping := by
  unfold State.watchRamp flowWatched
  rw [State.withCtx_some ctx, enterTiming_eq ctx, headerFlow_eq]
  have other : Phase.ramping ≠ .timing := fun h => by cases h
  simp only [ctx, other, false_and, if_false, true_and, Bool.and_eq_true, activeIn_iff, flowWithin, decide_eq_true_iff, and_assoc]

theorem watchLowFlow_eq {x : WashContext} (ctx : s.ctx c = some x) : s.watchLowFlow c = flowWatched s c .timing := by
  unfold State.watchLowFlow flowWatched
  rw [State.withCtx_some ctx, headerFlow_eq]
  have other : Phase.timing ≠ .ramping := fun h => by cases h
  simp only [ctx, other, false_and, if_false, true_and, Bool.and_eq_true, activeIn_iff, usesWater_iff, flowBelow,
    decide_eq_true_iff, and_assoc]
  refine ite_congr rfl (fun h => ite_congr rfl (fun _ => ?_) fun _ => rfl) fun _ => rfl
  cases x.lowFlowStart with
  | none => rfl
  | some t =>
    simp only [decideExit_eq ctx h.1]
    exact ite_congr (propext (State.expired_iff ..)) (fun _ => rfl) fun _ => rfl

theorem flowWatched_none (ctx : s.ctx c = none) (found : Phase) : flowWatched s c found = s := by
  unfold flowWatched
  rw [ctx]

theorem flowWatched_other {found : Phase} (ramping : found ≠ .ramping) (timing : found ≠ .timing) :
    flowWatched s c found = s := by
  unfold flowWatched
  cases s.ctx c with
  | none => rfl
  | some x => simp only [ramping, timing, false_and, if_false]

/-- A valid answer of node 21 for a context, by the phase that the answer finds (log 14). -/
theorem pumpAnswerFor_eq (s : State) (c : Slot) :
    s.pumpAnswerFor c = match s.ctx c with
      | some w => flowWatched (supplyWatched s c .pumps) c w.phase
      | none => s := by
  unfold State.pumpAnswerFor
  cases ctx : s.ctx c with
  | none => exact State.withCtx_none ctx _
  | some w =>
    rw [State.withCtx_some ctx, superviseSupply_eq]
    simp only []
    generalize supplyWatched s c .pumps = t
    by_cases ramping : w.phase = .ramping
    · rw [if_pos ramping, ramping]
      cases there : t.ctx c with
      | none => exact (State.withCtx_none there _).trans (flowWatched_none there _).symm
      | some x => exact watchRamp_eq there
    · rw [if_neg ramping]
      by_cases timing : w.phase = .timing
      · rw [if_pos timing, timing]
        cases there : t.ctx c with
        | none => exact (State.withCtx_none there _).trans (flowWatched_none there _).symm
        | some x => exact watchLowFlow_eq there
      · rw [if_neg timing, flowWatched_other ramping timing]

/-! ### The holdings of an orphan (R110, R111) -/

theorem ctxIs_of {st : WashState} (ctx : s.ctx c = some w) : s.ctxIs c st = decide (w.state = st) := by
  unfold State.ctxIs
  simp only [ctx]

theorem supplyQuiet_eq (s : State) (h : Header) : s.supplyQuiet h = quietSupply s h := by
  unfold State.supplyQuiet quietSupply
  simp only [feedback_eq_runs]
  rfl

theorem holdsOrphan_iff (s : State) (c : Slot) (h : Header) :
    s.holdsOrphan c h = true ↔ ∃ x ∈ (s.header h).holdings, x.slot = c ∧ x.orphan = true := by
  simp [State.holdsOrphan]

theorem releaseOrphanHolding_eq (s : State) (c : Slot) (h : Header) :
    s.releaseOrphanHolding c h = orphanReleased s c h := by
  unfold State.releaseOrphanHolding orphanReleased
  cases ctx : s.ctx c with
  | none => exact State.withCtx_none ctx _
  | some w =>
    rw [State.withCtx_some ctx, dropHolding_eq, supplyQuiet_eq]
    simp only [Bool.and_eq_true, holdsOrphan_iff, State.inletClosed, inlet_eq_inletOf, decide_eq_true_iff, Bool.not_eq_true',
      and_assoc]

theorem testOrphan_eq (s : State) (c : Slot) : s.testOrphan c = orphanTested s c := by
  unfold State.testOrphan orphanTested
  cases ctx : s.ctx c with
  | none =>
    have no : ¬ s.ctxIs c .orphan = true := by
      unfold State.ctxIs
      simp [ctx]
    exact if_neg no
  | some w =>
    rw [ctxIs_of ctx, freeIfBare_eq]
    simp only [releaseOrphanHolding_eq, decide_eq_true_iff]
    rfl

end Sys2Proof.Claim

/-! The FT and the TE on an input answer (R5, R11, R13, R14, R25 to R29). -/

namespace Sys2Proof.Claim

open Sys2Proof.Machine Sys2Proof.Safety

variable {s : State} {f : FilterId}

/-! ### Patterns and views (R2, R13) -/

theorem PerValve.get_ofFn {α : Type} (g : Valve → α) (v : Valve) : (PerValve.ofFn g).get v = g v := by cases v <;> rfl

theorem mem_allValves (v : Valve) : v ∈ allValves := by cases v <;> decide

theorem viewAgrees_iff (opens : Bool) (seen : ValveView) :
    viewAgrees opens seen = true ↔ seen = if opens then .opened else .closed := by
  cases opens <;> exact decide_eq_true_iff

theorem confirmed_iff (p : Pattern) (view : PerValve ValveView) : confirmed p view = true ↔ Confirmed p view := by
  unfold confirmed
  rw [List.all_eq_true]
  exact ⟨fun h v => (viewAgrees_iff ..).1 (h v (mem_allValves v)), fun h v _ => (viewAgrees_iff ..).2 (h v)⟩

theorem not_viewAgrees_iff (p : Pattern) (view : PerValve ValveView) (v : Valve) :
    (!viewAgrees (p.opens v) (view.get v)) = true ↔ Off p view v := by
  rw [viewAgrees_eq]
  exact decide_eq_true_iff

theorem offCount_iff (p : Pattern) (view : PerValve ValveView) (counts : PerValve Bool) (v : Valve) :
    (stepOffCounts p view counts).1.get v = true ↔ Off p view v := by
  unfold stepOffCounts
  rw [PerValve.get_ofFn]
  exact not_viewAgrees_iff p view v

/-- A valve that is off on two answers in a row has drifted. -/
theorem drifted_iff (p : Pattern) (view : PerValve ValveView) (counts : PerValve Bool) :
    (stepOffCounts p view counts).2.isSome = true ↔ ∃ v, Off p view v ∧ counts.get v = true := by
  have off := offCount_iff p view counts
  unfold stepOffCounts at off ⊢
  rw [List.find?_isSome]
  refine ⟨fun ⟨v, _, h⟩ => ?_, fun ⟨v, h, k⟩ => ⟨v, mem_allValves v, ?_⟩⟩
  · obtain ⟨h, k⟩ := Bool.and_eq_true_iff.1 h
    exact ⟨v, (off v).1 h, k⟩
  · exact Bool.and_eq_true_iff.2 ⟨(off v).2 h, k⟩

/-! ### Movements (R5, R16) -/

theorem modFilter_modFilter (s : State) (f : FilterId) (g k : FilterRecord → FilterRecord) :
    (s.modFilter f g).modFilter f k = s.modFilter f fun r => k (g r) := by
  have written : (s.modFilter f g).filter f = g (s.filter f) := State.filter_modFilter_same ..
  unfold State.modFilter at written ⊢
  rw [written]
  unfold State.setFilter
  simp only [Vector.set_set]


theorem movementAnswer_confirmed {m : Movement} (pending : (s.filter f).pending = some m)
    (seen : Confirmed m.pattern (s.filter f).view) : s.movementAnswer f = s.completeMovement f m.toService := by
  unfold State.movementAnswer
  simp only [pending]
  exact if_pos ((confirmed_iff ..).2 seen)

theorem movementAnswer_travelling {m : Movement} (pending : (s.filter f).pending = some m)
    (seen : ¬ Confirmed m.pattern (s.filter f).view) :
    s.movementAnswer f = s.modFilter f fun r => { r with pending := some { m with answered := true } } := by
  unfold State.movementAnswer
  simp only [pending]
  exact if_neg (mt (confirmed_iff ..).1 seen)

theorem movementAnswer_still (still : (s.filter f).pending = none) : s.movementAnswer f = s := by
  unfold State.movementAnswer
  simp only [still]

theorem completeMovement_service (s : State) (f : FilterId) : s.completeMovement f true =
    (s.modFilter f fun r => { r with
      held := none
      commanded := some .service
      pending := none
      offCounts := PerValve.all false
      runSeconds := if r.held = some .clean then 0 else r.runSeconds
      totalClear := if r.held = some .clean then true else r.totalClear
      shortRipen := if r.held = some .clean then false else r.shortRipen }).changeState f .service := by
  refine congrArg (fun t => State.changeState t f .service) (congrArg (s.setFilter f) ?_)
  by_cases clean : (s.filter f).held = some .clean <;> simp [clean]

/-! ### Drift (R13) -/

theorem watchDrift_idle (h : (s.filter f).state ≠ .service ∨ (s.filter f).pending ≠ none) : s.watchDrift f = s := by
  unfold State.watchDrift
  simp only []
  cases (s.filter f).commanded with
  | none => rfl
  | some p =>
    refine if_neg ?_
    rw [Bool.and_eq_true, decide_eq_true_iff, Option.isNone_iff_eq_none]
    exact fun both => h.elim (fun k => k both.1) fun k => k both.2

/-- The drift watch of a filter in SERVICE at rest. -/
theorem watchDrift_eq {p : Pattern} (service : (s.filter f).state = .service) (still : (s.filter f).pending = none)
    (commanded : (s.filter f).commanded = some p) :
    s.watchDrift f =
      let out := stepOffCounts p (s.filter f).view (s.filter f).offCounts
      if out.2.isSome = true ∧ (s.filter f).drift = false then
        (s.modFilter f fun r => { r with offCounts := out.1, drift := true }).raise .drift (filterNumber f)
      else s.modFilter f fun r => { r with offCounts := out.1 } := by
  unfold State.watchDrift
  simp only [commanded]
  refine (if_pos (by simp [service, still])).trans ?_
  refine ite_congr (by simp) (fun _ => ?_) fun _ => rfl
  rw [modFilter_modFilter]

theorem raise_filter (s : State) (k : NoticeKind) (n : Nat) (g : FilterId) : (s.raise k n).filter g = s.filter g := by
  rw [State.raise_eq]
  rfl

/-- The counts and the flag after the drift watch of a filter in SERVICE at rest. -/
theorem watchDrift_filter {p : Pattern} (service : (s.filter f).state = .service) (still : (s.filter f).pending = none)
    (commanded : (s.filter f).commanded = some p) :
    ((s.watchDrift f).filter f).offCounts = (stepOffCounts p (s.filter f).view (s.filter f).offCounts).1 ∧
      ((s.watchDrift f).filter f).drift =
        ((s.filter f).drift || (stepOffCounts p (s.filter f).view (s.filter f).offCounts).2.isSome) := by
  rw [watchDrift_eq service still commanded]
  simp only []
  split
  · rename_i drifts
    rw [raise_filter, State.filter_modFilter_same, drifts.1, Bool.or_true]
    exact ⟨rfl, rfl⟩
  · rename_i kept
    rw [State.filter_modFilter_same]
    refine ⟨rfl, ?_⟩
    cases drift : (s.filter f).drift
    · rw [Bool.false_or]
      exact (Bool.eq_false_iff.2 fun drifts => kept ⟨drifts, drift⟩).symm
    · rw [Bool.true_or]

/-! ### Trips (R14) -/

theorem goneActive_iff (mask previous word : BitVec 16) (i : Fin 16) : i ∈ goneActive mask previous word ↔
    mask.getLsbD i.val = true ∧ previous.getLsbD i.val = false ∧ word.getLsbD i.val = true := by
  simp [goneActive, and_assoc]

theorem goneActive_nodup (mask previous word : BitVec 16) : (goneActive mask previous word).Nodup :=
  (List.nodup_finRange 16).filter _

/-- A list without repetition whose only member is known. -/
theorem eq_singleton_of_unique {α : Type} {l : List α} {i : α} (nodup : l.Nodup) (mem : i ∈ l) (unique : ∀ j ∈ l, j = i) :
    l = [i] := List.perm_singleton.1 ((List.perm_ext_iff_of_nodup nodup (List.pairwise_singleton _ i)).2 fun j =>
      ⟨fun m => List.mem_singleton.2 (unique j m), fun m => List.mem_singleton.1 m ▸ mem⟩)

theorem watchTrip_kept {word : BitVec 16} (h : (s.filter f).trip ≠ none ∨
    goneActive (s.filterConfig f).tripMask (s.filter f).previousWord word = []) :
    s.watchTrip f word = (s.modFilter f fun x => { x with previousWord := word }, false) := by
  unfold State.watchTrip
  by_cases latched : (s.filter f).trip ≠ none
  · exact if_pos (Option.isSome_iff_ne_none.2 latched)
  · have none_ := h.resolve_left latched
    refine (if_neg (mt Option.isSome_iff_ne_none.1 latched)).trans ?_
    simp only [none_, tripInput]

theorem watchTrip_latches {word : BitVec 16} {i : Fin 16} (clear : (s.filter f).trip = none)
    (only : goneActive (s.filterConfig f).tripMask (s.filter f).previousWord word = [i]) :
    s.watchTrip f word = ((s.modFilter f fun x => { x with previousWord := word }).latchTrip f i, true) := by
  unfold State.watchTrip
  refine (if_neg (by simp [clear])).trans ?_
  simp only [only, tripInput]
  rfl

/-- The filter is isolated that is in SERVICE at rest, or on its way to SERVICE. -/
theorem latchTrip_eq (s : State) (f : FilterId) (i : Fin 16) :
    s.latchTrip f i =
      let latched := (s.modFilter f fun x => { x with trip := some i }).raise .trip (filterNumber f)
      if ((s.filter f).state = .service ∧ (s.filter f).pending = none) ∨
          (∃ m, (s.filter f).pending = some m ∧ m.toService = true) then
        latched.startMovement f false
      else latched := by
  unfold State.latchTrip
  simp only []
  rw [raise_filter, State.filter_modFilter_same]
  cases pending : (s.filter f).pending with
  | none => exact ite_congr (by simp) (fun _ => rfl) fun _ => rfl
  | some m => exact ite_congr (by simp) (fun _ => rfl) fun _ => rfl

/-! ### Survey-of-one (R11, R17) -/

/-- The outcome of a survey-of-one with the LOCAL switch inactive. -/
def surveyedAs (s : State) (f : FilterId) (word : BitVec 16) (o : FilterState × Option HeldCondition × Option Pattern) : State :=
  ((s.modFilter f fun x => { x with
    held := o.2.1, commanded := o.2.2, drift := false, offCounts := PerValve.all false
    classifyDue := false }).changeState f o.1).writeImage f
      (PerValve.ofFn fun v => decide ((viewOfWord word).get v = .opened))

theorem surveyedAs_trip (s : State) (f : FilterId) (word : BitVec 16)
    (o : FilterState × Option HeldCondition × Option Pattern) : ((surveyedAs s f word o).filter f).trip = (s.filter f).trip := by
  have kept : ((surveyedAs s f word o).filter f) = _ := State.changeState_filter_same ..
  rw [kept, State.filter_modFilter_same]

theorem surveyOfOne_remote (s : State) (f : FilterId) (word : BitVec 16) : s.surveyOfOne f word false =
    let o := surveyOutcome (viewOfWord word)
    if o.1 = .service ∧ (s.filter f).trip.isSome = true then (surveyedAs s f word o).startMovement f false
    else surveyedAs s f word o := by
  unfold State.surveyOfOne
  refine (if_neg Bool.false_ne_true).trans ?_
  refine ite_congr ?_ (fun _ => rfl) fun _ => rfl
  rw [Bool.and_eq_true, decide_eq_true_iff, ← surveyedAs_trip s f word]
  rfl

theorem surveyOutcome_of (view : PerValve ValveView) :
    (Confirmed .service view → surveyOutcome view = (.service, none, some .service)) ∧
      (Confirmed .isolated view → surveyOutcome view = (.held, some .dirty, some .isolated)) ∧
      (¬ Confirmed .service view → ¬ Confirmed .isolated view → surveyOutcome view = (.unknown, none, none)) := by
  have service := confirmed_iff .service view
  have isolated := confirmed_iff .isolated view
  unfold surveyOutcome
  refine ⟨fun h => if_pos (service.2 h), fun h => ?_, fun h k => ?_⟩
  · refine (if_neg fun k => ?_).trans (if_pos (isolated.2 h))
    have open_ := service.1 k .inf
    have closed := h .inf
    rw [open_] at closed
    cases closed
  · exact (if_neg (mt service.1 h)).trans (if_neg (mt isolated.1 k))

theorem surveyOfOne_not_service {word : BitVec 16} {o : FilterState × Option HeldCondition × Option Pattern}
    (outcome : surveyOutcome (viewOfWord word) = o) (other : o.1 ≠ .service) :
    s.surveyOfOne f word false = surveyedAs s f word o := by
  rw [surveyOfOne_remote]
  simp only [outcome]
  exact if_neg fun h => other h.1

theorem surveyOfOne_service {word : BitVec 16}
    (outcome : surveyOutcome (viewOfWord word) = (.service, none, some .service)) :
    s.surveyOfOne f word false =
      if (s.filter f).trip = none then surveyedAs s f word (.service, none, some .service)
      else (surveyedAs s f word (.service, none, some .service)).startMovement f false := by
  rw [surveyOfOne_remote]
  simp only [outcome, true_and]
  cases (s.filter f).trip <;> rfl

/-! ### Triggers (R25, R27, R28, R29) -/

theorem eval_eq (t : ConfirmState) (now : Seconds) (holds : Bool) (limit : Nat) :
    t.eval now holds limit = (confirmNext now limit holds t, confirmMet now limit holds t) := by
  cases holds <;> cases t
  case true.confirming start =>
    show (if limit ≤ (now - start).toNat then (ConfirmState.fired, true) else (.confirming start, false)) =
      (if limit ≤ (now - start).toNat then .fired else .confirming start, true && decide (limit ≤ (now - start).toNat))
    rw [Bool.true_and]
    by_cases due : limit ≤ (now - start).toNat
    · rw [if_pos due, if_pos due, decide_eq_true due]
    · rw [if_neg due, if_neg due, decide_eq_false due]
  all_goals rfl

/-- A trigger with a confirmation time, which only an input answer moves. -/
theorem evalOn_eq (isInput : Bool) (t : ConfirmState) (now : Seconds) (holds : Bool) (limit : Nat) :
    (if isInput then t.eval now holds limit else (t, false)) =
      (if isInput then confirmNext now limit holds t else t, isInput && confirmMet now limit holds t) := by
  cases isInput
  · rfl
  · exact eval_eq t now holds limit

theorem conditionsHold_some (x : FilterSettings) (n : Nat) (r : FilterRecord) :
    conditionsHold (some x) n r = (decide (x.breakthroughLimit ≤ r.turbidity.toNat), decide (x.headlossLimit ≤ r.headloss.toNat),
      decide (x.runLimit * 3600 ≤ r.runSeconds),
      !r.totalClear && x.volumeLimit != 0 && decide (x.volumeLimit ≤ r.filteredVolume)) := rfl

theorem volumeCondition_of_clear {settings : Option FilterSettings} {n : Nat} {r : FilterRecord} (clear : r.totalClear = true) :
    (conditionsHold settings n r).2.2.2 = false := by
  cases settings <;> simp [conditionsHold, clear]

theorem evalTriggers_outside (h : (s.filter f).state ≠ .service) (isInput : Bool) : s.evalTriggers f isInput = s :=
  if_neg (mt decide_eq_true_iff.1 h)

/-- The judgement of the four conditions. -/
def judgement (s : State) (t : Triggers) (isInput turbid resisting long large : Bool) : Triggers where
  turbidity := if isInput then confirmNext s.now s.plant.turbidityConfirm turbid t.turbidity else t.turbidity
  headloss := if isInput then confirmNext s.now s.plant.headlossConfirm resisting t.headloss else t.headloss
  runFired := long
  volumeFired := large

/-- A judgement, and the requests of the conditions that have been met. -/
def judgedBy (s : State) (f : FilterId) (isInput turbid resisting long large : Bool) (n : Nat) : State :=
  let t := s.trig f
  let judged := { s with
    free := n
    te := { triggers := s.te.triggers.set f.val (judgement s t isInput turbid resisting long large) } }
  let ask := fun (u : State) (met : Bool) (cause : WashCause) => if met then u.request f cause else u
  ask (ask (ask (ask judged (isInput && confirmMet s.now s.plant.turbidityConfirm turbid t.turbidity) .turbidity)
    (isInput && confirmMet s.now s.plant.headlossConfirm resisting t.headloss) .headloss)
    (long && !t.runFired) .runtime) (large && !t.volumeFired) .volume

theorem evalTriggers_service (h : (s.filter f).state = .service) (isInput : Bool) :
    s.evalTriggers f isInput =
      let settings := (s.filterConfig f).settings
      let h := conditionsHold settings s.free (s.filter f)
      judgedBy s f isInput h.1 h.2.1 h.2.2.1 h.2.2.2 (if settings.isNone then s.free + 1 else s.free) := by
  refine (if_pos (decide_eq_true_iff.2 h)).trans ?_
  simp only [evalOn_eq]
  rfl

/-- Settles O52, block by block. -/
theorem filterTableActsOnAnswers : Obligations.FilterTableActsOnAnswers := by
  intro s f
  refine ⟨fun m pending => ⟨fun goal seen => ?_, fun goal seen => ?_, fun seen => movementAnswer_travelling pending seen⟩,
    movementAnswer_still, fun p service still commanded => ?_, watchDrift_idle, fun word => ⟨fun kept => ?_, fun i clear gone unique => ?_⟩,
    fun word => ⟨fun seen => ?_, fun seen => ?_, fun open_ closed => ?_, rfl⟩, evalTriggers_outside, fun service isInput => ?_⟩
  · rw [movementAnswer_confirmed pending (by rwa [Movement.pattern_eq, goal]), goal]
    exact completeMovement_service s f
  · rw [movementAnswer_confirmed pending (by rwa [Movement.pattern_eq, goal]), goal]
    rfl
  · obtain ⟨counts, drift⟩ := watchDrift_filter service still commanded
    have off := offCount_iff p (s.filter f).view (s.filter f).offCounts
    have drifts := drifted_iff p (s.filter f).view (s.filter f).offCounts
    have all := watchDrift_eq service still commanded
    refine ⟨fun v => ?_, ?_, fun some_ unset => ?_, fun h => ?_⟩
    · rw [counts]
      exact off v
    · rw [drift, Bool.or_eq_true, drifts]
    · rw [counts, all]
      exact if_pos ⟨drifts.2 some_, unset⟩
    · rw [counts, all]
      refine if_neg fun both => h.elim (fun set => ?_) fun none_ => ?_
      · rw [both.2] at set
        cases set
      · obtain ⟨v, away, twice⟩ := drifts.1 both.1
        rw [none_ v away] at twice
        cases twice
  · refine watchTrip_kept (kept.imp_right fun none_ => List.eq_nil_iff_forall_not_mem.2 fun i m => none_ i ?_)
    exact (goneActive_iff ..).1 m
  · have only := eq_singleton_of_unique (goneActive_nodup ..) ((goneActive_iff ..).2 gone)
      fun j m => unique j ((goneActive_iff ..).1 m)
    rw [watchTrip_latches clear only, latchTrip_eq, State.filter_modFilter_same]
    rfl
  · exact surveyOfOne_service ((surveyOutcome_of _).1 seen)
  · exact surveyOfOne_not_service ((surveyOutcome_of _).2.1 seen) (fun h => by cases h)
  · exact surveyOfOne_not_service ((surveyOutcome_of _).2.2 open_ closed) (fun h => by cases h)
  · refine ⟨_, _, _, _, _, fun x settings => ?_, fun clear => volumeCondition_of_clear clear, evalTriggers_service service isInput⟩
    simp only [settings, conditionsHold_some]
    simp [and_assoc]

end Sys2Proof.Claim

/-! The SS on the answers of a wash's filter (R79 to R82, R85, R115, R130, R134). -/

namespace Sys2Proof.Claim

open Sys2Proof.Machine Sys2Proof.Safety

variable {s : State} {c : Slot} {w : WashContext} {p : PlannedStep}

/-! ### The watches of TIMING (R81, R82, R115) -/

theorem levelEnds_iff (w : WashContext) (level : Nat) : levelEnds w level = true ↔
    ∃ p, w.planned? = some p ∧
      ((p.step.kind = .drain ∧ level ≤ p.step.levelTarget) ∨ (p.step.kind = .refill ∧ p.step.levelTarget ≤ level)) := by
  unfold levelEnds WashContext.kind? WashContext.levelTarget
  cases w.planned? with
  | none => simp
  | some p => cases kind : p.step.kind <;> simp [kind]

theorem ripened_eq (s : State) (f : FilterId) : s.ripened f = turbidityReturns s f := rfl

theorem watchRipen_eq (ctx : s.ctx c = some w) (planned : w.planned? = some p) :
    s.watchRipen c = ripenTested s c w p := by
  have good : s.ripenGood c = stepEnded s c { w with ripenResult := .good } p := by
    have marked : (s.setCtx c (some { w with ripenResult := .good })).ctx c = some { w with ripenResult := .good } :=
      State.ctx_setCtx_same ..
    unfold State.ripenGood
    rw [State.modCtx_some ctx, endStep_eq marked planned, stepEnded_setCtx]
  unfold State.watchRipen ripenTested
  rw [State.withCtx_some ctx, ripened_eq, good]
  refine ite_congr rfl (fun _ => ?_) fun _ => rfl
  cases w.sustainStart with
  | none => rfl
  | some t => exact ite_congr (propext (State.expired_iff ..)) (fun _ => rfl) fun _ => (setCtx_self ctx).symm

theorem ripenTested_setCtx (s : State) (c : Slot) (x : Option WashContext) (w : WashContext) (p : PlannedStep) :
    ripenTested (s.setCtx c x) c w p = ripenTested s c w p := by
  unfold ripenTested
  rw [stepEnded_setCtx]
  simp only [inSlot, State.setCtx, Vector.set_set]
  rfl

theorem stepOffCounts_eq (q : Pattern) (view : PerValve ValveView) (counts : PerValve Bool) :
    stepOffCounts q view counts =
      (PerValve.ofFn fun v => decide (view.get v ≠ if q.opens v then .opened else .closed),
        ([.inf, .eff, .wst, .wwi, .air, .ftw] : List Valve).find? fun v =>
          decide (view.get v ≠ if q.opens v then .opened else .closed) && counts.get v) := by
  unfold stepOffCounts
  simp only [viewAgrees_eq, PerValve.get_ofFn]
  rfl

/-- An answer in TIMING that no level ends. -/
theorem driftTested_eq (ctx : s.ctx c = some w) (active : w.state = .active)
    (goesOn : ¬ levelEnds w (s.filter w.filter).level.toNat = true) : s.timingAnswer c = driftTested s c w := by
  unfold State.timingAnswer driftTested
  rw [State.withCtx_some ctx]
  refine (if_neg goesOn).trans ?_
  rw [stepOffCounts_eq, pattern_eq_patternOf, ← kindAt_stepIndex]
  simp only []
  cases List.find? _ _ with
  | some v =>
    refine decideExit_eq ?_ ?_ _ _
    · exact State.ctx_setCtx_same ..
    · exact active
  | none =>
    simp only []
    cases planned : w.planned? with
    | none =>
      have kind : kindAt w w.stepIndex = none := (congrArg _ planned).trans rfl
      exact if_neg (fun h => by rw [kind] at h; cases h)
    | some p =>
      refine ite_congr ?_ (fun _ => ?_) fun _ => rfl
      · rw [kindAt_stepIndex, kind?_eq planned, Option.some.injEq]
      · refine (watchRipen_eq ?_ ?_).trans (ripenTested_setCtx ..)
        · exact State.ctx_setCtx_same ..
        · exact planned

theorem timingAnswer_eq (ctx : s.ctx c = some w) (active : w.state = .active) : s.timingAnswer c = timingTested s c w := by
  by_cases ends : levelEnds w (s.filter w.filter).level.toNat = true
  · obtain ⟨p, planned, reached⟩ := (levelEnds_iff ..).1 ends
    unfold State.timingAnswer timingTested
    rw [State.withCtx_some ctx]
    simp only [planned]
    rw [if_pos reached, ← endStep_eq ctx planned]
    exact if_pos ends
  · rw [driftTested_eq ctx active ends]
    unfold timingTested
    simp only []
    cases planned : w.planned? with
    | none => rfl
    | some p => exact (if_neg fun reached => ends ((levelEnds_iff ..).2 ⟨p, planned, reached⟩)).symm

/-! ### Answers in SETTING (R79, R80) -/

theorem settingAnswer_unconfirmed (ctx : s.ctx c = some w) (seen : ¬ Confirmed (patternOf (kindAt w w.stepIndex)) (s.filter w.filter).view) :
    s.settingAnswer c = s := by
  unfold State.settingAnswer
  rw [State.withCtx_some ctx, pattern_eq_patternOf]
  exact if_neg (mt (confirmed_iff ..).1 seen)

theorem settingAnswer_confirmed (ctx : s.ctx c = some w)
    (seen : Confirmed (patternOf (kindAt w w.stepIndex)) (s.filter w.filter).view) :
    (kindAt w w.stepIndex = none → s.settingAnswer c = s.completeWash c) ∧
    (kindAt w w.stepIndex = some .air ∨ kindAt w w.stepIndex = some .airwater ∨ kindAt w w.stepIndex = some .water →
      s.settingAnswer c = inStarting s c w) ∧
    (kindAt w w.stepIndex = some .drain ∨ kindAt w w.stepIndex = some .settle ∨ kindAt w w.stepIndex = some .refill ∨
      kindAt w w.stepIndex = some .ripen → s.settingAnswer c = (inTiming s c w).timingAnswer c) := by
  have all : s.settingAnswer c = match kindAt w w.stepIndex with
      | some .drain | some .settle | some .refill | some .ripen => (s.stepConfirmed c).timingAnswer c
      | _ => s.stepConfirmed c := by
    unfold State.settingAnswer
    rw [State.withCtx_some ctx, pattern_eq_patternOf, kindAt_stepIndex]
    exact if_pos ((confirmed_iff ..).2 seen)
  have step : s.stepConfirmed c = match kindAt w w.stepIndex with
      | none => s.completeWash c
      | some .air | some .airwater | some .water => inStarting s c w
      | some .drain | some .settle | some .refill | some .ripen => inTiming s c w := by
    unfold State.stepConfirmed
    rw [State.withCtx_some ctx, enterStarting_eq ctx, enterTiming_eq ctx]
    rfl
  rw [all, step]
  refine ⟨fun k => by rw [k], ?_, ?_⟩
  · rintro (k | k | k) <;> rw [k]
  · rintro (k | k | k | k) <;> rw [k]

/-! ### Answers by the state of the context (R85, R130, R134) -/

theorem sequencerAnswer_none (ctx : s.ctx c = none) (tripped : Bool) : s.sequencerAnswer c tripped = s :=
  State.withCtx_none ctx _

/-- The answer is noted in the context first. -/
def heardBy (s : State) (c : Slot) (w : WashContext) : State := inSlot s c { w with answered := true }

theorem heardBy_ctx (s : State) (c : Slot) (w : WashContext) : (heardBy s c w).ctx c = some { w with answered := true } :=
  State.ctx_setCtx_same ..

/-- An answer is taken by the state of the context. -/
theorem sequencerAnswer_eq (ctx : s.ctx c = some w) (tripped : Bool) :
    (w.state = .active → s.sequencerAnswer c tripped = (heardBy s c w).activeAnswer c tripped) ∧
      (w.state = .exiting → s.sequencerAnswer c tripped = (heardBy s c w).exitAnswer c tripped) ∧
      (w.state = .orphan → s.sequencerAnswer c tripped = heardBy s c w) := by
  have answer : s.sequencerAnswer c tripped = match w.state with
      | .active => (heardBy s c w).activeAnswer c tripped
      | .exiting => (heardBy s c w).exitAnswer c tripped
      | .orphan => heardBy s c w := State.withCtx_some ctx _
  rw [answer]
  exact ⟨fun state => by rw [state], fun state => by rw [state], fun state => by rw [state]⟩

theorem activeAnswer_trip (ctx : s.ctx c = some w) (active : w.state = .active) :
    s.activeAnswer c true = exitFor s c w .trip none := decideExit_eq ctx active _ _

/-- An answer without a trip, by the phase of an ACTIVE context. -/
theorem activeAnswer_eq (ctx : s.ctx c = some w) :
    (w.phase = .setting → s.activeAnswer c false = s.settingAnswer c) ∧
      (w.phase = .timing → s.activeAnswer c false = s.timingAnswer c) ∧
      (w.phase ≠ .setting → w.phase ≠ .timing → s.activeAnswer c false = s) := by
  have answer : s.activeAnswer c false = match w.phase with
      | .setting => s.settingAnswer c
      | .timing => s.timingAnswer c
      | _ => s := State.withCtx_some ctx _
  rw [answer]
  refine ⟨fun phase => by rw [phase], fun phase => by rw [phase], fun setting timing => ?_⟩
  cases phase : w.phase with
  | setting => exact absurd phase setting
  | timing => exact absurd phase timing
  | acquire | starting | ramping | holdpoint => rfl

theorem exitAnswer_undecided (ctx : s.ctx c = some w) (kind : w.exitKind = none) (tripped : Bool) :
    s.exitAnswer c tripped = s := by
  unfold State.exitAnswer
  rw [State.withCtx_some ctx]
  simp only [kind]

theorem exitAnswer_converts {e : ExitKind} (ctx : s.ctx c = some w) (kind : w.exitKind = some e) (other : e ≠ .safeExit) :
    s.exitAnswer c true = convertedExit s c w := by
  have converts : s.convertExit c = convertedExit s c w := by
    unfold State.convertExit
    rw [State.withCtx_some ctx]
    simp only [Option.isNone_iff_eq_none]
    rfl
  unfold State.exitAnswer
  rw [State.withCtx_some ctx]
  simp only [kind]
  exact (if_pos (by simpa using other)).trans converts

/-- A trip leaves a SAFE-EXIT as it is. -/
theorem exitAnswer_safe (ctx : s.ctx c = some w) (kind : w.exitKind = some .safeExit) :
    s.exitAnswer c true = s.exitAnswer c false := by
  unfold State.exitAnswer
  rw [State.withCtx_some ctx, State.withCtx_some ctx]
  simp only [kind]
  rfl

theorem exitAnswer_eq {e : ExitKind} (ctx : s.ctx c = some w) (kind : w.exitKind = some e) :
    (Confirmed (exitPattern e) (s.filter w.filter).view → s.exitAnswer c false = s.endExit c e) ∧
      (¬ Confirmed (exitPattern e) (s.filter w.filter).view → s.exitAnswer c false = s) := by
  have test := confirmed_iff (exitPattern e) (s.filter w.filter).view
  have answer : s.exitAnswer c false =
      if confirmed (exitPattern e) (s.filter w.filter).view then s.endExit c e else s := by
    unfold State.exitAnswer
    rw [State.withCtx_some ctx]
    simp only [kind]
    rw [pattern_eq_exitPattern]
    exact if_neg Bool.false_ne_true
  rw [answer]
  exact ⟨fun seen => if_pos (test.2 seen), fun seen => if_neg (mt test.1 seen)⟩

end Sys2Proof.Claim

/-! The ends of a wash (R87, R131, R132, R133). -/

namespace Sys2Proof.Claim

open Sys2Proof.Machine Sys2Proof.Safety

variable {s b v : State} {c : Slot} {w : WashContext} {g : FilterRecord → FilterRecord} {st : FilterState}

/-! ### The filter is taken back, and the context becomes FREE -/

/-- The FT takes a filter back from a wash whose commitments are released. -/
structure TakenBack (s : State) (c : Slot) (w : WashContext) (g : FilterRecord → FilterRecord) (st : FilterState) (b : State) :
    Prop where
  contexts : ∃ x, b.ss.contexts = s.ss.contexts.set c.val x
  tank     : b.ra.tankTotal = s.ra.tankTotal - w.tankRemaining
  basin    : b.ra.basinTotal = s.ra.basinTotal - w.basinRemaining
  record   : b.filter w.filter = { g (s.filter w.filter) with state := st }
  others   : ∀ f, f ≠ w.filter → b.filter f = s.filter f
  bus      : b.gbm = s.gbm
  queue    : b.wq = s.wq
  list     : b.wr = s.wr
  shed     : b.au.shed = s.au.shed
  control  : b.mc = s.mc

theorem takenBack (ctx : s.ctx c = some w) (kept : st.discardsEntry = false) :
    TakenBack s c w g st (((s.releaseCommitments c).modFilter w.filter g).changeState w.filter st) := by
  rw [releaseCommitments_eq ctx]
  generalize marked : State.modFilter _ w.filter g = m
  have record : m.filter w.filter = g (s.filter w.filter) := by
    rw [← marked, State.filter_modFilter_same]
    rfl
  have others : ∀ f, f ≠ w.filter → m.filter f = s.filter f := fun f other => by
    rw [← marked, State.filter_modFilter_ne _ (Ne.symm other)]
    rfl
  have ra := m.changeState_ra w.filter st
  have ss := m.changeState_ss w.filter st
  refine ⟨⟨some { w with tankRemaining := 0, basinRemaining := 0 }, ?_⟩, ?_, ?_, ?_, fun f other => ?_, ?_, ?_, ?_, ?_, ?_⟩
  · rw [ss, ← marked]
    rfl
  · rw [ra, ← marked]
    rfl
  · rw [ra, ← marked]
    rfl
  · rw [State.changeState_filter_same, record]
  · rw [State.changeState_filter_ne _ (Ne.symm other), others f other]
  · rw [State.changeState_gbm, ← marked]
    rfl
  · rw [changeState_wq _ _ kept, ← marked]
    rfl
  · rw [State.changeState_wr, ← marked]
    rfl
  · rw [State.changeState_shed, ← marked]
    rfl
  · rw [State.changeState_mc, ← marked]
    rfl

/-- What every end of a wash leaves: a FREE context, its commitments released, the other filters and the images as they were. -/
def Released (s : State) (c : Slot) (w : WashContext) (t : State) : Prop :=
  t.ctx c = none ∧ (∀ d, d ≠ c → t.ctx d = s.ctx d) ∧ (∀ h, t.holds c h = false) ∧
    t.ra.tankTotal = s.ra.tankTotal - w.tankRemaining ∧ t.ra.basinTotal = s.ra.basinTotal - w.basinRemaining ∧
    (∀ f, f ≠ w.filter → t.filter f = s.filter f) ∧ t.gbm = s.gbm ∧ c ∉ t.au.shed

/-- A slot that becomes FREE leaves the other blocks. -/
theorem freeSlot_frame (v : State) (c : Slot) : (v.freeSlot c).ft = v.ft ∧ (v.freeSlot c).wq = v.wq ∧ (v.freeSlot c).wr = v.wr := by
  rw [freeSlot_eq]
  exact ⟨rfl, rfl, rfl⟩

theorem freeSlot_holds (v : State) (c : Slot) (h : Header) : (v.freeSlot c).holds c h = false := by
  have gone (l : List Holding) : ((l.filter fun x => x.slot != c).any fun x => x.slot = c) = false := by simp
  rw [freeSlot_eq]
  cases h <;> exact gone _

/-- A wash has ended from the state `b` in which its filter is taken back: what `v` then writes is neither the contexts, the RA,
the images nor another filter, and the slot leaves the shed list. -/
structure EndsFrom (b : State) (c : Slot) (w : WashContext) (v : State) : Prop where
  contexts : v.ss = b.ss
  plant    : v.ra = b.ra
  bus      : v.gbm = b.gbm
  others   : ∀ f, f ≠ w.filter → v.filter f = b.filter f
  shed     : v.au.shed = b.au.shed.filter fun x => x != c

theorem ctx_written_other {t : State} {d : Slot} {x : Option WashContext} (h : t.ss.contexts = s.ss.contexts.set c.val x)
    (other : d ≠ c) : t.ctx d = s.ctx d := by
  unfold State.ctx
  simp only [h]
  exact Vector.getElem_set_ne _ _ fun k => other (Fin.ext k.symm)

theorem TakenBack.released (h : TakenBack s c w g st b) (ends : EndsFrom b c w v) : Released s c w (v.freeSlot c) := by
  obtain ⟨x, contexts⟩ := h.contexts
  have holds := freeSlot_holds v c
  rw [freeSlot_eq] at holds ⊢
  refine ⟨?_, fun d other => ?_, holds, ?_, ?_, fun f other => ?_, ends.bus.trans h.bus, ?_⟩
  · exact ctx_written rfl
  · have left : v.ctx d = b.ctx d := congrArg (fun t : Sequencer => t.contexts[d.val]) ends.contexts
    exact (ctx_written_other (s := v) rfl other).trans (left.trans (ctx_written_other contexts other))
  · exact (congrArg ResourceUnit.tankTotal ends.plant).trans h.tank
  · exact (congrArg ResourceUnit.basinTotal ends.plant).trans h.basin
  · exact (ends.others f other).trans (h.others f other)
  · show c ∉ v.au.shed
    rw [ends.shed]
    simp

/-- The record of a wash that has ended. -/
def recorded (b : State) (c : Slot) (w : WashContext) (o : WashOutcome) (cause second : Option FaultCause)
    (x : Option Snapshot) : State :=
  (b.shedRemove c).recordWash w o cause second x

theorem recorded_wr (h : TakenBack s c w g st b) (o : WashOutcome) (cause second : Option FaultCause) (x : Option Snapshot) :
    (recorded b c w o cause second x).wr = oneRecord s.wr (recordFor w s.now o cause second x) := by
  have now : b.now = s.now := congrArg ModeControl.seconds h.control
  unfold recorded
  rw [recordWash_eq]
  show oneRecord b.wr (recordFor w b.now o cause second x) = _
  rw [h.list, now]

theorem recorded_raise (b : State) (c : Slot) (w : WashContext) (o : WashOutcome) (cause second : Option FaultCause)
    (x : Option Snapshot) (k : NoticeKind) (n : Nat) :
    EndsFrom b c w ((recorded b c w o cause second x).raise k n) := by
  rw [State.raise_eq]
  exact ⟨rfl, rfl, rfl, fun _ _ => rfl, rfl⟩

/-! ### Completion (R87) -/

/-- A completed wash asks for another when its ripening failed on a first attempt (R38, R87). -/
def Rewashes (w : WashContext) : Prop := w.ripenResult = .unmet ∧ w.secondAttempt = false

theorem completionOutcome_rewash (h : Rewashes w) : completionOutcome w = .rewash :=
  if_pos (by simp [h.1, h.2])

theorem completionOutcome_done (h : ¬ Rewashes w) :
    completionOutcome w = if w.reduced then .completeReduced else .complete :=
  if_neg fun k => h (by simpa [Rewashes] using k)

theorem completionOutcome_ne (h : ¬ Rewashes w) : completionOutcome w ≠ .rewash := by
  rw [completionOutcome_done h]
  split <;> exact fun k => by cases k

/-- The state from which the slot of a completed wash becomes FREE. -/
def completed (b : State) (c : Slot) (w : WashContext) : State :=
  ((recorded b c w (completionOutcome w) w.cause w.secondCause none).requestRewash w.filter (completionOutcome w)).raise .washEnd
    (filterNumber w.filter)

theorem completeWash_eq (ctx : s.ctx c = some w) :
    ∃ b, TakenBack s c w (fun r => freshlyWashed { r with commanded := some .service }) .service b ∧
      s.completeWash c = (completed b c w).freeSlot c := by
  refine ⟨_, takenBack ctx rfl, ?_⟩
  unfold State.completeWash
  rw [State.withCtx_some ctx]
  rfl

theorem completed_done (h : ¬ Rewashes w) :
    completed b c w = (recorded b c w (completionOutcome w) w.cause w.secondCause none).raise .washEnd (filterNumber w.filter) := by
  unfold completed State.requestRewash
  rw [if_neg (completionOutcome_ne h)]

/-- A rewash puts a REWASH request in for the filter, which is in SERVICE without an entry. -/
theorem completed_rewash (h : Rewashes w) (taken : TakenBack s c w g .service b)
    (absent : ∀ e ∈ s.wq.entries, e.filter ≠ w.filter) :
    EndsFrom b c w (completed b c w) ∧ (completed b c w).filter w.filter = { b.filter w.filter with rewashPending := true } ∧
      (completed b c w).wr = (recorded b c w (completionOutcome w) w.cause w.secondCause none).wr ∧
      ∃ e ∈ (completed b c w).wq.entries, e.filter = w.filter ∧ e.cls = .rewash ∧ e.entryTime = s.mc.seconds := by
  generalize written : recorded b c w (completionOutcome w) w.cause w.secondCause none = x
  have records : x.ft = b.ft := by rw [← written]; rfl
  have kept : ∀ f, x.filter f = b.filter f := fun f => congrArg (fun t : FilterTable => t.records[f.val]) records
  have queue : x.wq = s.wq := by rw [← written]; exact taken.queue
  have control : x.mc = s.mc := by rw [← written]; exact taken.control
  have rotation : x.queueable w.filter = true := (queueable_iff ..).2 (.inl (by rw [kept, taken.record]))
  obtain ⟨q, e, put, members, filter, cls, time, -⟩ := request_inserts .rewash rotation (by rwa [queue])
  have all : completed b c w =
      ({ x with wq := { entries := q, changeNumber := x.wq.changeNumber + 1 } }.modFilter w.filter fun r =>
        { r with rewashPending := true }).raise .washEnd (filterNumber w.filter) := by
    unfold completed State.requestRewash
    rw [written, if_pos (completionOutcome_rewash h), put]
  have filters : (∀ f, f ≠ w.filter → (completed b c w).filter f = b.filter f) ∧
      (completed b c w).filter w.filter = { b.filter w.filter with rewashPending := true } := by
    rw [all]
    refine ⟨fun f other => ?_, ?_⟩
    · exact (raise_filter ..).trans ((State.filter_modFilter_ne _ (Ne.symm other) _).trans (kept f))
    · refine (raise_filter ..).trans ((State.filter_modFilter_same ..).trans ?_)
      rw [← kept]
      rfl
  obtain ⟨others, own⟩ := filters
  have frame : (completed b c w).ss = b.ss ∧ (completed b c w).ra = b.ra ∧ (completed b c w).gbm = b.gbm ∧
      (completed b c w).au.shed = b.au.shed.filter fun x => x != c := by
    rw [all, State.raise_eq, ← written]
    exact ⟨rfl, rfl, rfl, rfl⟩
  obtain ⟨ss, ra, gbm, shed⟩ := frame
  refine ⟨⟨ss, ra, gbm, others, shed⟩, own, ?_, e, ?_, filter, cls, ?_⟩
  · rw [all, State.raise_eq]
    rfl
  · rw [all, State.raise_eq]
    exact (members e).2 (.inl rfl)
  · rw [time, control]

/-- A completed wash (R87). -/
theorem completeWash_spec (ctx : s.ctx c = some w) (absent : ∀ e ∈ s.wq.entries, e.filter ≠ w.filter) :
    let t := s.completeWash c
    Released s c w t ∧
    (Rewashes w → t.filter w.filter = { s.filter w.filter with
        state := .service, commanded := some .service, runSeconds := 0, totalClear := true, shortRipen := false
        rewashPending := true } ∧
      t.wr = oneRecord s.wr (recordFor w s.now .rewash w.cause w.secondCause none) ∧
      ∃ e ∈ t.wq.entries, e.filter = w.filter ∧ e.cls = .rewash ∧ e.entryTime = s.mc.seconds) ∧
    (¬ Rewashes w → t.filter w.filter = { s.filter w.filter with
        state := .service, commanded := some .service, runSeconds := 0, totalClear := true, shortRipen := false } ∧
      t.wr = oneRecord s.wr (recordFor w s.now (if w.reduced then .completeReduced else .complete) w.cause w.secondCause none) ∧
      t.wq = s.wq) := by
  obtain ⟨b, taken, freed⟩ := completeWash_eq ctx
  have wr := recorded_wr taken (completionOutcome w) w.cause w.secondCause none
  obtain ⟨ft, wq, list⟩ := freeSlot_frame (completed b c w) c
  dsimp only
  rw [freed]
  have filter : ((completed b c w).freeSlot c).filter w.filter = (completed b c w).filter w.filter :=
    congrArg (fun t : FilterTable => t.records[w.filter.val]) ft
  rw [filter, wq, list]
  by_cases again : Rewashes w
  · obtain ⟨ends, record, written, entry⟩ := completed_rewash again taken absent
    refine ⟨taken.released ends, fun _ => ⟨?_, ?_, entry⟩, fun no => absurd again no⟩
    · rw [record, taken.record]
      rfl
    · rw [written, wr, completionOutcome_rewash again]
  · have done_ := completed_done (b := b) (c := c) again
    rw [done_]
    refine ⟨taken.released (recorded_raise ..), fun yes => absurd yes again, fun _ => ⟨?_, ?_, ?_⟩⟩
    · rw [raise_filter]
      exact taken.record
    · rw [State.raise_eq, completionOutcome_done again] at *
      exact wr
    · rw [State.raise_eq]
      exact taken.queue

/-! ### Ends of exits (R131, R132, R133) -/

/-- An end that writes a record, without a change of the queue. -/
theorem ends_recorded (taken : TakenBack s c w g st b) (o : WashOutcome) (cause second : Option FaultCause)
    (x : Option Snapshot) (k : NoticeKind) (n : Nat) :
    let t := ((recorded b c w o cause second x).raise k n).freeSlot c
    Released s c w t ∧ t.filter w.filter = { g (s.filter w.filter) with state := st } ∧
      t.wr = oneRecord s.wr (recordFor w s.now o cause second x) ∧ t.wq = s.wq := by
  have wr := recorded_wr taken o cause second x
  have released := taken.released (recorded_raise b c w o cause second x k n)
  refine ⟨released, ?_⟩
  rw [freeSlot_eq, State.raise_eq]
  exact ⟨taken.record, wr, taken.queue⟩

theorem endSafeExit_spec (ctx : s.ctx c = some w) :
    let t := s.endSafeExit c
    Released s c w t ∧
      t.filter w.filter = { s.filter w.filter with state := .held, held := some .dirty, commanded := some .isolated } ∧
      (w.cause = none → t.wr = oneRecord s.wr (recordFor w s.now .ineffective none w.secondCause none)) ∧
      (w.cause ≠ none → t.wr =
        oneRecord s.wr (recordFor w s.now .heldExit w.cause w.secondCause (snapshotOf w.stepItems w.valveItems))) ∧
      t.wq = s.wq := by
  obtain ⟨b, taken, ended⟩ : ∃ b,
      TakenBack s c w (fun r => { r with commanded := some .isolated, held := some .dirty }) .held b ∧
        s.endSafeExit c = (State.raise (if w.cause.isNone then recorded b c w .ineffective none w.secondCause none
          else recorded b c w .heldExit w.cause w.secondCause (snapshotOf w.stepItems w.valveItems)) .washExit
          (filterNumber w.filter)).freeSlot c := by
    refine ⟨_, takenBack ctx rfl, ?_⟩
    unfold State.endSafeExit
    rw [State.withCtx_some ctx]
    rfl
  dsimp only
  rw [ended]
  by_cases quiet : w.cause = none
  · rw [if_pos (Option.isNone_iff_eq_none.2 quiet)]
    obtain ⟨released, record, wr, wq⟩ :=
      ends_recorded taken .ineffective none w.secondCause none .washExit (filterNumber w.filter)
    exact ⟨released, record, fun _ => wr, fun other => absurd quiet other, wq⟩
  · rw [if_neg (mt Option.isNone_iff_eq_none.1 quiet)]
    obtain ⟨released, record, wr, wq⟩ := ends_recorded taken .heldExit w.cause w.secondCause
      (snapshotOf w.stepItems w.valveItems) .washExit (filterNumber w.filter)
    exact ⟨released, record, fun none_ => absurd none_ quiet, fun _ => wr, wq⟩

theorem endLateExit_spec (ctx : s.ctx c = some w) :
    let t := s.endLateExit c
    Released s c w t ∧
      t.filter w.filter = { s.filter w.filter with state := .service, commanded := some .service, shortRipen := true } ∧
      t.wr = oneRecord s.wr (recordFor w s.now .shortRipen w.cause w.secondCause none) ∧ t.wq = s.wq := by
  obtain ⟨b, taken, ended⟩ : ∃ b,
      TakenBack s c w (fun r => { r with commanded := some .service, shortRipen := true }) .service b ∧
        s.endLateExit c =
          ((recorded b c w .shortRipen w.cause w.secondCause none).raise .washExit (filterNumber w.filter)).freeSlot c := by
    refine ⟨_, takenBack ctx rfl, ?_⟩
    unfold State.endLateExit
    rw [State.withCtx_some ctx]
    rfl
  dsimp only
  rw [ended]
  exact ends_recorded taken ..

/-- A RETURN-EXIT puts the entry of the wash back, the filter having none (R37, R131). -/
theorem endReturnExit_spec (ctx : s.ctx c = some w) (absent : ∀ e ∈ s.wq.entries, e.filter ≠ w.filter) :
    let t := s.endReturnExit c
    Released s c w t ∧
      t.filter w.filter = { s.filter w.filter with
        state := .service, commanded := some .service
        rewashPending := w.secondAttempt || (s.filter w.filter).rewashPending } ∧
      t.wr = oneRecord s.wr (recordFor w s.now .returned w.cause w.secondCause none) ∧
      ⟨w.filter, w.cls, w.causes, w.entryTime⟩ ∈ t.wq.entries ∧ t.wq.changeNumber = s.wq.changeNumber + 1 := by
  have taken := takenBack (g := fun r => { r with
    commanded := some .service, rewashPending := w.secondAttempt || r.rewashPending }) (st := .service) ctx rfl
  generalize back : State.changeState _ w.filter .service = b at taken
  have none_ : (b.shedRemove c).entry? w.filter = none := (entry?_eq_none_iff ..).2 (by
    show ∀ e ∈ b.wq.entries, e.filter ≠ w.filter
    rwa [taken.queue])
  obtain ⟨q, put, members⟩ := putEntry_spec (b.shedRemove c) w.entry
  have ended : s.endReturnExit c = ((({ b.shedRemove c with
      wq := { entries := q, changeNumber := b.wq.changeNumber + 1 } } : State).recordWash w .returned w.cause w.secondCause none).raise
        .washExit (filterNumber w.filter)).freeSlot c := by
    have joined : (b.shedRemove c).reinsert w.entry = { b.shedRemove c with
        wq := { entries := q, changeNumber := b.wq.changeNumber + 1 } } := by
      unfold State.reinsert
      rw [show w.entry.filter = w.filter from rfl, none_]
      exact put
    unfold State.endReturnExit
    rw [State.withCtx_some ctx]
    dsimp only
    rw [← joined, ← back]
    rfl
  have wr := recorded_wr taken .returned w.cause w.secondCause none
  have ends : EndsFrom b c w ((({ b.shedRemove c with
      wq := { entries := q, changeNumber := b.wq.changeNumber + 1 } } : State).recordWash w .returned w.cause w.secondCause none).raise
        .washExit (filterNumber w.filter)) := by
    rw [State.raise_eq]
    exact ⟨rfl, rfl, rfl, fun _ _ => rfl, rfl⟩
  dsimp only
  rw [ended]
  refine ⟨taken.released ends, ?_⟩
  rw [freeSlot_eq, State.raise_eq]
  exact ⟨taken.record, wr, (members _).2 (.inl rfl), congrArg (· + 1) (congrArg WashQueue.changeNumber taken.queue)⟩

/-! ### The statement -/

/-- The slot's context is the one that has heard the answer. -/
theorem Released.of_heard {t : State} (h : Released (heardBy s c w) c { w with answered := true } t) : Released s c w t := by
  obtain ⟨free, others, rest⟩ := h
  exact ⟨free, fun d other => (others d other).trans (ctx_written_other (s := s) rfl other), rest⟩

/-- What an answer makes of an ACTIVE context that goes on. -/
theorem sequencerAnswer_active (ctx : s.ctx c = some w) (active : w.state = .active) :
    let heard := { w with answered := true }
    let u := heardBy s c w
    let view := (s.filter w.filter).view
    let k := kindAt w w.stepIndex
    s.sequencerAnswer c true = exitFor u c heard .trip none ∧
      (w.phase ≠ .setting → w.phase ≠ .timing → s.sequencerAnswer c false = u) ∧
      (w.phase = .timing → s.sequencerAnswer c false = timingTested u c heard) ∧
      (w.phase = .setting → ¬ Confirmed (patternOf k) view → s.sequencerAnswer c false = u) ∧
      (w.phase = .setting → Confirmed (patternOf k) view →
        (k = some .air ∨ k = some .airwater ∨ k = some .water → s.sequencerAnswer c false = inStarting u c heard) ∧
        (k = some .drain ∨ k = some .settle ∨ k = some .refill ∨ k = some .ripen →
          s.sequencerAnswer c false = timingTested (inTiming u c heard) c (timed u heard))) := by
  have heard := heardBy_ctx s c w
  have answer := fun tripped => (sequencerAnswer_eq ctx tripped).1 active
  obtain ⟨setting, timing, other⟩ := activeAnswer_eq heard
  have entered : (inTiming (heardBy s c w) c { w with answered := true }).ctx c =
      some (timed (heardBy s c w) { w with answered := true }) := inSlot_ctx ..
  dsimp only
  rw [answer, answer]
  refine ⟨activeAnswer_trip heard active, other, fun phase => (timing phase).trans (timingAnswer_eq heard active),
    fun phase seen => (setting phase).trans (settingAnswer_unconfirmed heard seen), fun phase seen => ?_⟩
  obtain ⟨-, starts, times⟩ := settingAnswer_confirmed heard seen
  exact ⟨fun k => (setting phase).trans (starts k),
    fun k => (setting phase).trans ((times k).trans (timingAnswer_eq entered active))⟩

/-- The answer that confirms the pattern of an exit ends it. -/
theorem sequencerAnswer_ends {e : ExitKind} (ctx : s.ctx c = some w) (exiting : w.state = .exiting)
    (kind : w.exitKind = some e) (seen : Confirmed (exitPattern e) (s.filter w.filter).view) :
    s.sequencerAnswer c false = (heardBy s c w).endExit c e :=
  ((sequencerAnswer_eq ctx false).2.1 exiting).trans ((exitAnswer_eq (heardBy_ctx s c w) kind).1 seen)

/-- The answer that confirms SERVICE in RETURN completes the wash. -/
theorem sequencerAnswer_completes (ctx : s.ctx c = some w) (active : w.state = .active) (setting : w.phase = .setting)
    (last : kindAt w w.stepIndex = none) (seen : Confirmed .service (s.filter w.filter).view) :
    s.sequencerAnswer c false = (heardBy s c w).completeWash c := by
  have heard := heardBy_ctx s c w
  have pattern : Confirmed (patternOf (kindAt w w.stepIndex)) (s.filter w.filter).view := by rwa [last]
  exact ((sequencerAnswer_eq ctx false).1 active).trans
    (((activeAnswer_eq heard).1 setting).trans ((settingAnswer_confirmed heard pattern).1 last))

/-- Settles O53: the cases of the context, and the ends of a wash. -/
theorem washesEndOnConfirmation : Obligations.WashesEndOnConfirmation := by
  refine ⟨fun s c => sequencerAnswer_none, fun s c w ctx => ?_, fun s c w ctx _ absent => ?_⟩
  · have heard := heardBy_ctx s c w
    have answer := fun tripped => (sequencerAnswer_eq ctx tripped).2.1
    refine ⟨fun tripped => (sequencerAnswer_eq ctx tripped).2.2, sequencerAnswer_active ctx,
      fun exiting kind tripped => (answer tripped exiting).trans (exitAnswer_undecided heard kind tripped),
      fun e exiting kind => ⟨fun other => (answer true exiting).trans (exitAnswer_converts heard kind other), fun safe => ?_,
        fun seen => (answer false exiting).trans ((exitAnswer_eq heard kind).2 seen)⟩⟩
    subst safe
    rw [answer true exiting, answer false exiting]
    exact exitAnswer_safe heard kind
  · have heard := heardBy_ctx s c w
    dsimp only
    refine ⟨fun active setting last seen => ?_, fun exiting kind seen => ?_, fun exiting kind seen => ?_,
      fun exiting kind seen => ?_⟩
    · rw [sequencerAnswer_completes ctx active setting last seen]
      obtain ⟨released, again, done_⟩ := completeWash_spec heard absent
      refine ⟨released.of_heard, ?_⟩
      by_cases rewash : w.ripenResult = .unmet ∧ w.secondAttempt = false
      · obtain ⟨record, wr, entry⟩ := again rewash
        simp only [if_pos rewash]
        exact ⟨record, wr, fun _ => entry, fun no => absurd rewash no⟩
      · obtain ⟨record, wr, wq⟩ := done_ rewash
        simp only [if_neg rewash]
        exact ⟨record, wr, fun yes => absurd yes rewash, fun _ => wq⟩
    · rw [sequencerAnswer_ends ctx exiting kind seen]
      obtain ⟨released, rest⟩ := endReturnExit_spec heard absent
      exact ⟨released.of_heard, rest⟩
    · rw [sequencerAnswer_ends ctx exiting kind seen]
      obtain ⟨released, record, quiet, caused, wq⟩ := endSafeExit_spec heard
      refine ⟨released.of_heard, record, quiet, fun cause x v step valves => ?_, wq⟩
      have wr := caused cause
      rw [show snapshotOf w.stepItems w.valveItems = some ⟨x, v⟩ by rw [step, valves]; rfl] at wr
      exact wr
    · rw [sequencerAnswer_ends ctx exiting kind seen]
      obtain ⟨released, rest⟩ := endLateExit_spec heard
      exact ⟨released.of_heard, rest⟩

end Sys2Proof.Claim

/-! SUPPORT. The gallery bus as the statements write it out: links, losses and scan completions (R9, R108, R143, R144, R147 to
R151, R185). -/

namespace Sys2Proof.Claim

open Sys2Proof.Machine Sys2Proof.Safety

variable {s t : State} {f : FilterId} {n : NodeId} {c : Slot} {w : WashContext}

/-! ### Links (R149, R150, R151) -/

theorem satIncr_eq (n : Nat) : satIncr n = min (n + 1) 65535 := by
  unfold satIncr
  split <;> omega

theorem miss_eq_missed (l : NodeLink) (limit : Nat) : l.miss limit = missed l limit := by
  have reaches : decide (l.misses < limit ∧ l.misses + 1 = limit) = decide (l.misses + 1 = limit) :=
    decide_eq_decide.2 ⟨And.right, fun h => ⟨by omega, h⟩⟩
  unfold NodeLink.miss missed
  rw [satIncr_eq, reaches]

theorem noticeNumber_eq (n : NodeId) : n.noticeNumber = nodeNumber n := by cases n <;> rfl

theorem hearNode_eq (s : State) (n : NodeId) (a : Answer) : s.hearNode n a.status = answerHeard s n a := by
  unfold State.hearNode answerHeard
  rw [noticeNumber_eq]
  rfl

/-! ### Polls and transactions (R143) -/

theorem nextNode_of_after {m : NodeId} (same : t.gbm.settings = s.gbm.settings) (after : nodeAfter s n m) :
    t.nextNode n = some m := by
  have count : t.filterCount = s.gbm.settings.filterCount := congrArg BusSettings.filterCount same
  unfold State.nextNode
  rw [count]
  unfold nodeAfter at after
  match n, m, after with
  | .filter f, .filter g, after =>
    obtain ⟨next, inside⟩ := after
    have below : f.val + 1 < 20 := next ▸ g.isLt
    have g_eq : g = ⟨f.val + 1, below⟩ := Fin.ext next
    subst g_eq
    simp only [dif_pos below]
    exact if_pos inside
  | .filter f, .washWater, after =>
    simp only []
    split
    · exact if_neg fun inside => after ⟨by assumption, inside⟩
    · rfl
  | .washWater, .airNode, _ => rfl
  | .airNode, .waste, _ => rfl

/-! ### Scan completions (R143, R144, R147, R185) -/

theorem nextCursor_eq (s : State) : s.nextCursor = cursorAfter s := by
  unfold State.nextCursor cursorAfter
  cases s.gbm.cursor with
  | none => rfl
  | some f =>
    simp only [Option.map_some]
    split
    · exact (apply_ite some _ _ _).symm
    · rfl

theorem countScan_eq (s : State) : s.countScan = scanCounted s := by
  unfold State.countScan scanCounted
  rw [nextCursor_eq, satIncr_eq, satIncr_eq]

theorem startScan_eq (s : State) : s.startScan = scanBegun s := by
  unfold State.startScan scanBegun
  rw [firstNode_eq_scanStart]

theorem surveyFilter_eq (s : State) (f : FilterId) : s.surveyFilter f = surveyedFilter s f := by
  unfold State.surveyFilter surveyedFilter
  refine ite_congr ?_ (fun _ => ?_) fun _ => rfl
  · rw [Bool.and_eq_true, decide_eq_true_iff]
    rfl
  · cases (s.fnode f).input with
    | none => rfl
    | some i => cases (s.link (.filter f)).status <;> rfl

/-- Node 21's image is asked for when one of its units runs (R93). -/
def pumpsAsked (s : State) : State :=
  { s with gbm := { s.gbm with
    washNode := { s.gbm.washNode with owed := s.gbm.washNode.owed || runs s .pumps .a || runs s .pumps .b } } }

/-- Node 22's image is asked for when one of its units runs (R93). -/
def blowersAsked (s : State) : State :=
  { s with gbm := { s.gbm with
    airNode := { s.gbm.airNode with owed := s.gbm.airNode.owed || runs s .blowers .a || runs s .blowers .b } } }

theorem pumpsAsked_eq (s : State) : (if s.feedback .pumps .a || s.feedback .pumps .b then
    { s with gbm := { s.gbm with washNode := { s.gbm.washNode with owed := true } } } else s) = pumpsAsked s := by
  unfold pumpsAsked
  rw [feedback_eq_runs, feedback_eq_runs, Bool.or_assoc]
  cases runs s .pumps .a || runs s .pumps .b
  · rw [Bool.or_false]
    rfl
  · rw [Bool.or_true]
    rfl

theorem blowersAsked_eq (s : State) : (if s.feedback .blowers .a || s.feedback .blowers .b then
    { s with gbm := { s.gbm with airNode := { s.gbm.airNode with owed := true } } } else s) = blowersAsked s := by
  unfold blowersAsked
  rw [feedback_eq_runs, feedback_eq_runs, Bool.or_assoc]
  cases runs s .blowers .a || runs s .blowers .b
  · rw [Bool.or_false]
    rfl
  · rw [Bool.or_true]
    rfl

theorem askImages_eq (s : State) : s.askImages = blowersAsked (pumpsAsked s) := by
  rw [← blowersAsked_eq, ← pumpsAsked_eq]
  rfl

/-- The floor as it is evaluated at the survey's end (R49). -/
theorem evalFloorNow_explicit (s : State) : s.evalFloorNow =
    let breach := decide (inServiceCount s < s.au.required)
    if breach = s.au.breach then s else State.raise { s with au := { s.au with breach := breach } } .floor 0 := rfl

/-- The floor is evaluated, and the mode becomes HOLD. -/
def floorThenHold (u : State) : State :=
  let breach := decide (inServiceCount u < u.au.required)
  let v := if breach = u.au.breach then u else State.raise { u with au := { u.au with breach := breach } } .floor 0
  { v with mc := { v.mc with mode := .hold } }

theorem floorThenHold_eq (u : State) : u.evalFloorNow.setMode .hold = floorThenHold u := by
  rw [evalFloorNow_explicit]
  rfl

theorem endSurvey_eq (s : State) : s.endSurvey = surveyEnded s := by
  have filters : allFilters.foldl State.surveyFilter s = (List.finRange 20).foldl surveyedFilter s :=
    congrArg (fun g => List.foldl g s (List.finRange 20)) (funext fun t => funext fun f => surveyFilter_eq t f)
  unfold State.endSurvey surveyEnded
  rw [filters]
  generalize (List.finRange 20).foldl surveyedFilter s = t
  have asked : t.askImages = { t with gbm := { t.gbm with
      washNode := { t.gbm.washNode with owed := t.gbm.washNode.owed || runs t .pumps .a || runs t .pumps .b }
      airNode := { t.gbm.airNode with owed := t.gbm.airNode.owed || runs t .blowers .a || runs t .blowers .b } } } :=
    askImages_eq t
  exact (floorThenHold_eq _).trans (congrArg floorThenHold asked)

theorem countSurvey_eq (s : State) : s.countSurvey = surveyCounted s := by
  unfold State.countSurvey surveyCounted
  refine ite_congr rfl (fun _ => ?_) fun _ => rfl
  simp only []
  rw [endSurvey_eq]
  exact ite_congr (propext ⟨fun h => by omega, fun h => by omega⟩) (fun _ => rfl) fun _ => rfl

theorem completeScan_eq (s : State) : s.completeScan = scanEnded s := by
  unfold State.completeScan scanEnded
  simp only [countSurvey_eq, countScan_eq, startScan_eq]

/-! ### The loss of a filter's node (R9, R109) -/

theorem orphanWash_eq (s : State) (f : FilterId) (cause : FaultCause) (outcome : WashOutcome) :
    s.orphanWash f cause outcome = orphanedWash s f cause outcome := by
  unfold State.orphanWash orphanedWash
  cases named : s.slotNaming f with
  | none => rfl
  | some c =>
    obtain ⟨w, ctx, -⟩ := State.slotNaming_names named
    simp only [ctx]
    rw [orphan_eq ctx, freeIfBare_eq]

theorem toUnknown_eq (s : State) (f : FilterId) : (s.markStale f).toUnknown f = goneUnknown s f := by
  unfold State.toUnknown State.markStale goneUnknown
  rw [modFilter_modFilter]

theorem filterLost_eq (s : State) (f : FilterId) : s.filterLost f = filterGone s f := by
  have state : ((s.markStale f).filter f).state = (s.filter f).state := by
    unfold State.markStale
    rw [State.filter_modFilter_same]
  have pending : ((s.markStale f).filter f).pending = (s.filter f).pending := by
    unfold State.markStale
    rw [State.filter_modFilter_same]
  unfold State.filterLost filterGone
  simp only [state, pending, toUnknown_eq, orphanWash_eq]
  cases (s.filter f).state with
  | service | wash | held | localCtl | unused => rfl
  | unknown => exact modFilter_modFilter ..
  | fault => cases (s.filter f).pending <;> rfl

/-! ### The loss of a supply node (R108) -/

/-- A pair's image is at stop, and the write is owed. -/
def ImageAtStop (s : State) (p : SupplyPair) : Prop := s.writeStop p = s

theorem writeStop_atStop (s : State) (p : SupplyPair) : ImageAtStop (s.writeStop p) p := by cases p <;> rfl

theorem supplyAtStop_atStop (s : State) (c : Slot) (w : WashContext) (p : SupplyPair) : ImageAtStop (supplyAtStop s c w p) p := by
  cases p <;> rfl

theorem stopHolders_eq (p : SupplyPair) (holders : List Slot) (s : State) (stopped : ImageAtStop s p) :
    holders.foldl (fun t c => t.stopSupply c p) s =
      holders.foldl (fun t c => match t.ctx c with | some w => supplyAtStop t c w p | none => t) s := by
  induction holders generalizing s with
  | nil => rfl
  | cons c rest ih =>
    have first : s.stopSupply c p = match s.ctx c with | some w => supplyAtStop s c w p | none => s := by
      cases ctx : s.ctx c with
      | none =>
        unfold State.stopSupply
        rw [stopped]
        exact modCtx_none ctx _
      | some w => exact stopSupply_eq ctx p
    have still : ImageAtStop (s.stopSupply c p) p := by
      rw [first]
      cases s.ctx c with
      | none => exact stopped
      | some w => exact supplyAtStop_atStop s c w p
    rw [List.foldl_cons, List.foldl_cons, ih _ still, first]

theorem supplyLost_eq (s : State) (p : SupplyPair) : s.supplyLost p = supplyGone s p := by
  have exits : (fun (t : State) c => t.decideExit c (some .supplyLost) none) = fun t c => exitIfActive t c .supplyLost none :=
    funext fun t => funext fun c => decideExit_eq_exitIfActive t c .supplyLost none
  unfold State.supplyLost supplyGone
  simp only []
  rw [exits, stopHolders_eq p _ _ (writeStop_atStop s p)]
  cases p <;> rfl

/-! ### Misses (R148, R149, R150) -/

theorem lostEvent_eq (s : State) (n : NodeId) : (s.lostEvent n).raise .node n.noticeNumber = lossTaken s n := by
  unfold lossTaken
  rw [noticeNumber_eq]
  cases n with
  | filter f => exact congrArg (fun t => State.raise t .node _) (filterLost_eq s f)
  | washWater => exact congrArg (fun t => State.raise t .node _) (supplyLost_eq s .pumps)
  | airNode => exact congrArg (fun t => State.raise t .node _) (supplyLost_eq s .blowers)
  | waste => rfl

theorem countMiss_eq (s : State) (n : NodeId) : s.countMiss n = afterMiss s n := by
  have noted : ∀ l, ({ (s.setLink n l).dropSent n with gbm := { ((s.setLink n l).dropSent n).gbm with scanMissed := true } } : State) =
      { s with gbm := { unsent s.gbm n with links := s.gbm.links.set n.index.val l, scanMissed := true } } := fun l => by
    cases n <;> rfl
  unfold State.countMiss afterMiss
  simp only [noted]
  rw [miss_eq_missed, lostEvent_eq]
  exact ite_congr (by simp) (fun _ => rfl) fun _ => rfl

end Sys2Proof.Claim

/-! Invalid and missing answers (R9, R109, R145, R149, R150). -/

namespace Sys2Proof.Claim

open Sys2Proof.Machine Sys2Proof.Safety

variable {s t : State} {f : FilterId} {n : NodeId} {c : Slot} {w : WashContext} {code : PollCode} {a : Answer}

/-! ### The tests on an answer (R145, R169) -/

theorem code_eq_iff (code : PollCode) (b : Byte) : b = code.byte ↔
    b.toNat = (match code with | .readIo => 1 | .writeIo => 2 | .readTotal => 3 | .clearTotal => 4) := by
  cases code <;> exact BitVec.toNat_inj.symm

theorem length_eq_iff (n : NodeId) (code : PollCode) (a : Answer) : answerLength a = expectedLength n code ↔
    a.payload.length = (match n, code with
      | .filter _, .readIo | .filter _, .writeIo => 8
      | .filter _, _ => 4
      | .washWater, _ => 5
      | .airNode, _ => 3
      | .waste, _ => 3) := by
  unfold answerLength
  cases n <;> cases code <;> exact Nat.add_right_cancel_iff

theorem address_eq_match (n : NodeId) :
    n.address = (match n with | .filter f => f.val + 1 | .washWater => 21 | .airNode => 22 | .waste => 23) := by
  cases n <;> rfl

theorem answerValid_iff (n : NodeId) (code : PollCode) (a : Answer) : answerValid n code a = true ↔ validAnswer n code a := by
  unfold answerValid validAnswer
  simp only [Bool.and_eq_true, decide_eq_true_iff, answerCrcOk, code_eq_iff, length_eq_iff, address_eq_match, and_assoc]
  rfl

/-! ### Transactions that end (R145) -/

theorem takeAnswer_eq (awaits : s.gbm.phase = .awaiting n code) : s.takeAnswer a =
    (if answerValid n code a then s.handAnswer n code a else s.countMiss n).endTransaction n := by
  unfold State.takeAnswer
  simp only [awaits]

theorem missAnswer_eq (awaits : s.gbm.phase = .awaiting n code) : s.missAnswer = (s.countMiss n).endTransaction n := by
  unfold State.missAnswer
  simp only [awaits]

theorem takeAnswer_of_valid (awaits : s.gbm.phase = .awaiting n code) (valid : validAnswer n code a) :
    s.takeAnswer a = (s.handAnswer n code a).endTransaction n := by
  rw [takeAnswer_eq awaits, if_pos ((answerValid_iff ..).2 valid)]

theorem takeAnswer_of_invalid (awaits : s.gbm.phase = .awaiting n code) (invalid : ¬ validAnswer n code a) :
    s.takeAnswer a = s.missAnswer := by
  rw [takeAnswer_eq awaits, if_neg (mt (answerValid_iff ..).1 invalid), missAnswer_eq awaits]

/-- No poll awaits an answer. -/
theorem answers_idle (quiet : ∀ n code, s.gbm.phase ≠ .awaiting n code) : s.takeAnswer a = s ∧ s.missAnswer = s := by
  unfold State.takeAnswer State.missAnswer
  cases phase : s.gbm.phase with
  | awaiting n code => exact absurd phase (quiet n code)
  | idle => exact ⟨rfl, rfl⟩
  | due n => exact ⟨rfl, rfl⟩

/-- The rows that carry an answer act by its content (log 36). -/
theorem exec_answer (s : State) (a : Answer) {i : Instr}
    (row : i ∈ [Instr.filterInputAnswer a, .filterTotalizerAnswer a, .supplyNodeAnswer a]) :
    exec i s = .next (s.whenRunning fun s => s.takeAnswer a) := by
  simp only [List.mem_cons, List.not_mem_nil, or_false] at row
  rcases row with rfl | rfl | rfl <;> rfl

/-- Settles O23. -/
theorem invalidAnswersCountAsMissing : Obligations.InvalidAnswersCountAsMissing := by
  refine ⟨answerValid_iff, fun s a i row => ⟨fun n code awaits invalid => ?_, fun quiet => ?_⟩⟩
  · rw [exec_answer s a row]
    show _ = Host.Outcome.next (s.whenRunning State.missAnswer)
    exact congrArg _ (ite_congr rfl (fun _ => takeAnswer_of_invalid awaits invalid) fun _ => rfl)
  · obtain ⟨taken, missed⟩ := answers_idle (a := a) quiet
    rw [exec_answer s a row]
    exact ⟨congrArg _ (whenRunning_idle taken), congrArg _ (whenRunning_idle missed)⟩

/-! ### Missing answers (R149) -/

theorem endTransaction_next {m : NodeId} (next : t.nextNode n = some m) :
    t.endTransaction n = { t with gbm := { t.gbm with phase := .due m } } := by
  unfold State.endTransaction
  simp only [next]
  rfl

theorem endTransaction_waste (t : State) : t.endTransaction .waste = scanEnded t := completeScan_eq t

/-- The GBM's own items after a miss are not the settings. -/
theorem missNoted_frame (s : State) (n : NodeId) :
    (missNoted s n).gbm.settings = s.gbm.settings ∧
      (missNoted s n).gbm.links = s.gbm.links.set n.index.val (missed (s.link n) s.gbm.settings.missLimit) := by
  unfold missNoted unsent
  cases n <;> exact ⟨rfl, rfl⟩

theorem lossTaken_step (s : State) (n : NodeId) : PlantStep s (lossTaken s n) := by
  rw [← lostEvent_eq]
  exact (PlantStep.lostEvent s n).trans (PlantStep.raise _ _ _)

theorem afterMiss_frame (s : State) (n : NodeId) :
    (afterMiss s n).gbm.settings = s.gbm.settings ∧
      (afterMiss s n).gbm.links = s.gbm.links.set n.index.val (missed (s.link n) s.gbm.settings.missLimit) := by
  obtain ⟨settings, links⟩ := missNoted_frame s n
  have step := lossTaken_step (missNoted s n) n
  unfold afterMiss
  dsimp only
  split
  · exact ⟨step.settings.trans settings, step.links.trans links⟩
  · exact ⟨settings, links⟩

/-- Two nodes at one place are one node. -/
theorem index_injective {m n : NodeId} (same : m.index.val = n.index.val) : m = n := by
  have addresses : nodeOfAddress? (u8 [BitVec.ofNat 8 m.address] 0) = nodeOfAddress? (u8 [BitVec.ofNat 8 n.address] 0) :=
    congrArg (fun i => nodeOfAddress? (u8 [BitVec.ofNat 8 (i + 1)] 0)) same
  rw [address_eq, address_eq, nodeOfAddress?_of, nodeOfAddress?_of] at addresses
  exact Option.some.inj addresses

theorem link_of_set {l : NodeLink} (links : t.gbm.links = s.gbm.links.set n.index.val l) (m : NodeId) :
    t.link m = if m = n then l else s.link m := by
  unfold State.link
  simp only [links]
  split
  · subst_vars
    exact Vector.getElem_set_self ..
  · rename_i other
    exact Vector.getElem_set_ne _ _ fun same => other (index_injective same.symm)

/-! ### A wash orphaned (R109, R111, R137) -/

/-- What the orphaning of a wash writes. -/
theorem orphanState_frame (s : State) (c : Slot) (w : WashContext) (cause : FaultCause) (outcome : WashOutcome) :
    (orphanState s c w cause outcome).ft = s.ft ∧
      (∃ v, (orphanState s c w cause outcome).ctx c = some v ∧ v.state = .orphan ∧ v.filter = w.filter ∧
        v.tankRemaining = w.tankRemaining ∧ v.basinRemaining = w.basinRemaining) ∧
      (∀ h, (orphanState s c w cause outcome).header h = orphaned c (s.header h)) ∧
      (orphanState s c w cause outcome).ra.tankTotal = s.ra.tankTotal ∧
      (orphanState s c w cause outcome).ra.basinTotal = s.ra.basinTotal ∧
      (orphanState s c w cause outcome).wr = oneRecord s.wr (recordFor w s.now outcome
        (if w.state = .exiting then w.cause else some cause) (if w.state = .exiting then some cause else none)
        (if w.state = .exiting then w.stepItems.map (snapshotNow s c w) else some (snapshotNow s c w (stepNow s w)))) := by
  unfold orphanState
  simp only [decide_eq_true_iff]
  rw [State.raise_eq]
  refine ⟨rfl, ⟨_, ctx_written rfl, rfl, rfl, rfl, rfl⟩, fun h => ?_, rfl, rfl, rfl⟩
  cases h <;> rfl

theorem orphaned_holdsOrphan (c : Slot) (e : HeaderEntry) :
    ((orphaned c e).holdings.any fun x => x.slot = c && x.orphan) = e.holdings.any fun x => x.slot = c := by
  unfold orphaned
  rw [List.any_map]
  refine congrArg (fun g => e.holdings.any g) (funext fun x => ?_)
  by_cases own : x.slot = c <;> simp [own]

/-- Freeing an orphan changes no part of a record but the mark of a due classification. -/
theorem freedState_record {β : Type} {part : FilterRecord → β} (apart : ∀ r b, part { r with classifyDue := b } = part r)
    (s : State) (c : Slot) (w : WashContext) (g : FilterId) : part ((freedState s c w).filter g) = part (s.filter g) := by
  by_cases own : w.filter = g
  · have due : (freedState s c w).filter w.filter = { s.filter w.filter with
        classifyDue := (s.filter w.filter).classifyDue ||
          (decide ((s.filter w.filter).state = .unknown) && !(s.link (.filter w.filter)).lost) } := by
      rw [freedState_eq]
      exact Vector.getElem_set_self ..
    rw [← own, due, apart]
  · have kept : (freedState s c w).filter g = s.filter g := by
      rw [freedState_eq]
      exact Vector.getElem_set_ne w.filter.isLt g.isLt fun k => own (Fin.ext k)
    rw [kept]

/-- Orphaning a wash changes no part of a record but the mark of a due classification. -/
theorem orphanedWash_record {β : Type} {part : FilterRecord → β} (apart : ∀ r b, part { r with classifyDue := b } = part r)
    (s : State) (f : FilterId) (cause : FaultCause) (outcome : WashOutcome) (g : FilterId) :
    part ((orphanedWash s f cause outcome).filter g) = part (s.filter g) := by
  have freed (c : Slot) (w : WashContext) : part ((freedWhenBare (orphanState s c w cause outcome) c).filter g) =
      part (s.filter g) := by
    have same : (orphanState s c w cause outcome).filter g = s.filter g :=
      congrArg (fun t : FilterTable => t.records[g.val]) (orphanState_frame s c w cause outcome).1
    unfold freedWhenBare
    split
    · split
      · rw [freedState_record apart, same]
      · rw [same]
    · rw [same]
  unfold orphanedWash
  split
  · rfl
  · split
    · rfl
    · exact freed ..

/-- A wash orphaned: its record, and its slot freed at once or kept with ORPHAN holdings. -/
theorem orphanedWash_spec (named : s.slotNaming f = some c) (ctx : s.ctx c = some w) (cause : FaultCause)
    (outcome : WashOutcome) :
    let t := orphanedWash s f cause outcome
    (∀ g, (t.filter g).state = (s.filter g).state) ∧
      t.wr = oneRecord s.wr (recordFor w s.now outcome
        (if w.state = .exiting then w.cause else some cause) (if w.state = .exiting then some cause else none)
        (if w.state = .exiting then w.stepItems.map (snapshotNow s c w) else some (snapshotNow s c w (stepNow s w)))) ∧
      ((∀ h, s.holds c h = false) → t.ctx c = none ∧
        t.ra.tankTotal = s.ra.tankTotal - w.tankRemaining ∧ t.ra.basinTotal = s.ra.basinTotal - w.basinRemaining) ∧
      ((∃ h, s.holds c h = true) → (∃ v, t.ctx c = some v ∧ v.state = .orphan) ∧
        (∀ h, t.holdsOrphan c h = s.holds c h) ∧ t.ra.tankTotal = s.ra.tankTotal ∧ t.ra.basinTotal = s.ra.basinTotal) := by
  obtain ⟨ft, ⟨v, there, orphan, -, tank, basin⟩, headers, tankTotal, basinTotal, wr⟩ := orphanState_frame s c w cause outcome
  have wash : orphanedWash s f cause outcome = freedWhenBare (orphanState s c w cause outcome) c := by
    unfold orphanedWash
    simp only [named, ctx]
  dsimp only
  rw [wash]
  generalize orphanState s c w cause outcome = u at *
  have states : ∀ g, (u.filter g).state = (s.filter g).state := fun g =>
    congrArg (fun t : FilterTable => (t.records[g.val]).state) ft
  have holds : ∀ h, u.holds c h = s.holds c h := fun h =>
    (congrArg (fun e : HeaderEntry => e.holdings.any fun y => y.slot = c) (headers h)).trans (orphaned_holds ..)
  have holdsOrphan : ∀ h, u.holdsOrphan c h = s.holds c h := fun h =>
    (congrArg (fun e : HeaderEntry => e.holdings.any fun y => y.slot = c && y.orphan) (headers h)).trans (orphaned_holdsOrphan ..)
  unfold freedWhenBare
  simp only [there]
  by_cases bare : ∀ h, s.holds c h = false
  · rw [if_pos ⟨orphan, fun h _ => (holds h).trans (bare h)⟩]
    obtain ⟨free, -, total, volume, record, -, -⟩ := freedState_spec u c v
    refine ⟨fun g => (freedState_record (part := FilterRecord.state) (fun _ _ => rfl) u c v g).trans (states g), record.trans wr,
      fun _ => ⟨free, ?_, ?_⟩, fun ⟨h, held⟩ => ?_⟩
    · rw [total, tankTotal, tank]
    · rw [volume, basinTotal, basin]
    · rw [bare h] at held
      cases held
  · have keeps : ¬ (v.state = .orphan ∧ ∀ h ∈ [Header.air, .wash, .ftw], u.holds c h = false) := fun none_ =>
      bare fun h => (holds h).symm.trans (none_.2 h (by cases h <;> simp))
    rw [if_neg keeps]
    exact ⟨states, wr, fun all => absurd all bare, fun _ => ⟨⟨v, there, orphan⟩, holdsOrphan, tankTotal, basinTotal⟩⟩

/-! ### The statement of missing answers -/

/-- A filter that goes to UNKNOWN on the loss of its node. -/
theorem goneUnknown_frame (s : State) (f : FilterId) :
    ((goneUnknown s f).filter f).state = .unknown ∧ ((goneUnknown s f).filter f).view = (s.filter f).view ∧
      (goneUnknown s f).ss = s.ss ∧ (goneUnknown s f).ra = s.ra ∧ (goneUnknown s f).wr = s.wr ∧
      (goneUnknown s f).gbm = s.gbm ∧ (goneUnknown s f).mc = s.mc := by
  unfold goneUnknown
  rw [State.changeState_filter_same, State.changeState_ss, State.changeState_ra, State.changeState_wr, State.changeState_gbm,
    State.changeState_mc, State.filter_modFilter_same]
  exact ⟨rfl, rfl, rfl, rfl, rfl, rfl, rfl⟩

theorem missNoted_image (s : State) (n : NodeId) (f : FilterId) :
    ((missNoted s n).fnode f).image = (s.fnode f).image := by
  cases n with
  | filter g =>
    by_cases own : g = f
    · have sent : (missNoted s (.filter g)).fnode g = { s.fnode g with sent := none } := Vector.getElem_set_self ..
      rw [← own, sent]
    · have kept : (missNoted s (.filter g)).fnode f = s.fnode f :=
        Vector.getElem_set_ne g.isLt f.isLt fun k => own (Fin.ext k)
      rw [kept]
  | washWater | airNode | waste => rfl

/-- The loss of a wash's node. -/
theorem afterMiss_wash (lost : ((afterMiss s (.filter f)).link (.filter f)).lost = true) (before : (s.link (.filter f)).lost = false)
    (wash : (s.filter f).state = .wash) :
    afterMiss s (.filter f) =
      (orphanedWash (goneUnknown (missNoted s (.filter f)) f) f .nodeLost .orphaned).raise .node (f.val + 1) := by
  rw [link_of_set (afterMiss_frame s (.filter f)).2, if_pos rfl] at lost
  have state : ((missNoted s (.filter f)).filter f).state = .wash := wash
  unfold afterMiss
  refine (if_pos ⟨lost, before⟩).trans ?_
  unfold lossTaken filterGone
  simp only [state]
  rfl

/-- A snapshot is of the wash's step, its filter's image and view, and the headers held. -/
theorem snapshotNow_congr {u : State} (image : (u.fnode w.filter).image = (s.fnode w.filter).image)
    (view : (u.filter w.filter).view = (s.filter w.filter).view) (holds : ∀ h, u.holds c h = s.holds c h) (step : StepItems) :
    snapshotNow u c w step = snapshotNow s c w step := by
  unfold snapshotNow
  rw [image, view, holds, holds, holds]

/-- Settles O22. -/
theorem missingAnswersAreCounted : Obligations.MissingAnswersAreCounted := by
  intro s n code running awaits
  obtain ⟨settings, links⟩ := afterMiss_frame s n
  have ended : exec .missingAnswer s = .next ((afterMiss s n).endTransaction n) :=
    congrArg _ ((State.whenRunning_of_running running _).trans ((missAnswer_eq awaits).trans (by rw [countMiss_eq])))
  refine ⟨fun m after => ?_, fun last => ?_, link_of_set links, fun f c w node lost before wash named ctx other => ?_⟩
  · rw [ended, endTransaction_next (nextNode_of_after settings after)]
  · subst last
    rw [ended, endTransaction_waste]
  · subst node
    rw [afterMiss_wash lost before wash]
    have image := missNoted_image s (.filter f)
    obtain ⟨unknown, view, ss, ra, wr, gbm, mc⟩ := goneUnknown_frame (missNoted s (.filter f)) f
    generalize goneUnknown (missNoted s (.filter f)) f = u at *
    obtain ⟨v, there, own⟩ := State.slotNaming_names named
    obtain rfl : v = w := Option.some.inj (there.symm.trans ctx)
    have ctx_u : u.ctx c = some v := (congrArg (fun t : Sequencer => t.contexts[c.val]) ss).trans ctx
    have named_u : u.slotNaming f = some c := by
      unfold State.slotNaming State.ctx at named ⊢
      rw [ss]
      exact named
    have holds : ∀ h, u.holds c h = s.holds c h := holds_congr (congrArg ResourceUnit.headers ra) c
    have snapshot : snapshotNow u c v = snapshotNow s c v := funext fun step => by
      refine snapshotNow_congr ?_ ?_ holds step
      · unfold State.fnode at image ⊢
        rw [gbm]
        exact image _
      · rw [own]
        exact view
    have step : stepNow u v = stepNow s v := congrArg (fun m : ModeControl => (⟨v.stepIndex, v.kind?, v.phase, m.seconds - v.stepStart⟩ : StepItems)) mc
    have now : u.now = s.now := congrArg ModeControl.seconds mc
    obtain ⟨states, record, bare, held⟩ := orphanedWash_spec named_u ctx_u .nodeLost .orphaned
    rw [wr, now, snapshot, step] at record
    rw [ra] at bare held
    generalize orphanedWash u f .nodeLost .orphaned = t at *
    rw [State.raise_eq]
    refine ⟨(states f).trans unknown, fun active => ?_, fun exiting => ?_, fun none_ => bare fun h => (holds h).trans (none_ h),
      fun ⟨h, some_⟩ => ?_⟩
    · have no : ¬ v.state = .exiting := by rw [active]; exact fun k => by cases k
      rw [if_neg no, if_neg no, if_neg no] at record
      exact record
    · rw [if_pos exiting, if_pos exiting, if_pos exiting] at record
      exact record
    · obtain ⟨orphan, holdings, tank, basin⟩ := held ⟨h, (holds h).trans some_⟩
      exact ⟨orphan, fun h => (holdings h).trans (holds h), tank, basin⟩

end Sys2Proof.Claim

/-! SUPPORT. The readings of the bus: what the nodes have answered, and the counts of the scans. No operation of the blocks
behind the GBM writes them. -/

namespace Sys2Proof.Machine

/-- What a filter's record holds of its node's answers (R2, R14). -/
abbrev FilterRecord.reading (r : FilterRecord) : PerValve ValveView × BitVec 16 × BitVec 16 × BitVec 16 × BitVec 16 :=
  (r.view, r.headloss, r.level, r.turbidity, r.previousWord)

/-- What a filter node's entry holds of its answers (R152, R153). -/
abbrev FilterNode.reading (n : FilterNode) : Option FilterInput × BitVec 16 × Option (BitVec 32) :=
  (n.input, n.changeSet, n.totalizer)

/-- What the part holds of the nodes' answers, and the counts of the scans. -/
structure Readings where
  records       : FilterId → PerValve ValveView × BitVec 16 × BitVec 16 × BitVec 16 × BitVec 16
  nodes         : FilterId → Option FilterInput × BitVec 16 × Option (BitVec 32)
  wash          : Option PumpInput
  air           : Option BlowerInput
  waste         : Option WasteInput
  tankWatch     : VolumeWatch
  basinWatch    : VolumeWatch
  scanCount     : BitVec 32
  scansWithMiss : Nat
  overruns      : Nat
  cursor        : Option FilterId

/-- The readings of a state. -/
def readings (s : State) : Readings where
  records f := (s.filter f).reading
  nodes f := (s.fnode f).reading
  wash := s.gbm.washNode.input
  air := s.gbm.airNode.input
  waste := s.gbm.wasteInput
  tankWatch := s.nu.tankWatch
  basinWatch := s.nu.basinWatch
  scanCount := s.gbm.scanCount
  scansWithMiss := s.gbm.scansWithMiss
  overruns := s.gbm.overruns
  cursor := s.gbm.cursor

/-! ### Equal readings -/

section

variable {s t : State} (same : readings t = readings s)

include same

theorem wash_of_readings : t.gbm.washNode.input = s.gbm.washNode.input := congrArg Readings.wash same
theorem air_of_readings : t.gbm.airNode.input = s.gbm.airNode.input := congrArg Readings.air same
theorem waste_of_readings : t.gbm.wasteInput = s.gbm.wasteInput := congrArg Readings.waste same
theorem tankWatch_of_readings : t.nu.tankWatch = s.nu.tankWatch := congrArg Readings.tankWatch same
theorem record_of_readings (f : FilterId) : (t.filter f).reading = (s.filter f).reading :=
  congrFun (congrArg Readings.records same) f
theorem node_of_readings (f : FilterId) : (t.fnode f).reading = (s.fnode f).reading :=
  congrFun (congrArg Readings.nodes same) f
theorem counts_of_readings : t.gbm.scanCount = s.gbm.scanCount ∧ t.gbm.scansWithMiss = s.gbm.scansWithMiss ∧
    t.gbm.overruns = s.gbm.overruns ∧ t.gbm.cursor = s.gbm.cursor :=
  ⟨congrArg Readings.scanCount same, congrArg Readings.scansWithMiss same, congrArg Readings.overruns same,
    congrArg Readings.cursor same⟩

end

/-! ### Control -/

@[simp] theorem readings_withCtx {s : State} {c : Slot} {g : WashContext → State} (h : ∀ w, readings (g w) = readings s) :
    readings (s.withCtx c g) = readings s := by
  unfold State.withCtx
  split
  · exact h _
  · rfl

theorem readings_foldl {α : Type} {g : State → α → State} (h : ∀ s x, readings (g s x) = readings s) (l : List α) (s : State) :
    readings (l.foldl g s) = readings s := by
  induction l generalizing s with
  | nil => rfl
  | cons x xs ih => exact (ih _).trans (h s x)

/-! ### Records and images -/

@[simp] theorem readings_modFilter {s : State} {f : FilterId} {g : FilterRecord → FilterRecord}
    (h : ∀ r, (g r).reading = r.reading) : readings (s.modFilter f g) = readings s := by
  have records : (fun i => ((s.modFilter f g).filter i).reading) = fun i => (s.filter i).reading := funext fun i => by
    by_cases own : f = i
    · rw [← own, State.filter_modFilter_same, h]
    · rw [State.filter_modFilter_ne _ own]
  unfold readings
  rw [records]
  rfl

@[simp] theorem readings_setFnode {s : State} {f : FilterId} {n : FilterNode} (h : n.reading = (s.fnode f).reading) :
    readings (s.setFnode f n) = readings s := by
  have nodes : (fun i => ((s.setFnode f n).fnode i).reading) = fun i => (s.fnode i).reading := funext fun i => by
    by_cases own : f = i
    · rw [← own, ← h]
      exact congrArg FilterNode.reading (show (s.setFnode f n).fnode f = n from Vector.getElem_set_self ..)
    · exact congrArg FilterNode.reading (show (s.setFnode f n).fnode i = s.fnode i from
        Vector.getElem_set_ne f.isLt i.isLt fun k => own (Fin.ext k))
  unfold readings
  rw [nodes]
  rfl

@[simp] theorem readings_writeImage (s : State) (f : FilterId) (image : PerValve Bool) :
    readings (s.writeImage f image) = readings s := readings_setFnode rfl

/-! ### Blocks without readings -/

variable (s : State) (f : FilterId) (c : Slot)

@[simp] theorem readings_setCtx (w : Option WashContext) : readings (s.setCtx c w) = readings s := rfl
@[simp] theorem readings_modCtx (g : WashContext → WashContext) : readings (s.modCtx c g) = readings s := rfl
@[simp] theorem readings_setTrig (t : Triggers) : readings (s.setTrig f t) = readings s := rfl
@[simp] theorem readings_setHeader (h : Header) (e : HeaderEntry) : readings (s.setHeader h e) = readings s := rfl
@[simp] theorem readings_leaveWaits : readings (s.leaveWaits c) = readings s := rfl
@[simp] theorem readings_orphanHoldings : readings (s.orphanHoldings c) = readings s := rfl
@[simp] theorem readings_putEntry (e : QueueEntry) : readings (s.putEntry e) = readings s := rfl
@[simp] theorem readings_writePumps (i : PumpImage) : readings (s.writePumps i) = readings s := rfl
@[simp] theorem readings_writeBlowers (i : BlowerImage) : readings (s.writeBlowers i) = readings s := rfl
@[simp] theorem readings_shedRemove : readings (s.shedRemove c) = readings s := rfl
@[simp] theorem readings_setCheck (r : CheckResult) : readings (s.setCheck r) = readings s := rfl
@[simp] theorem readings_setBreach (b : Bool) : readings (s.setBreach b) = readings s := rfl
@[simp] theorem readings_commitDelta (w : WashContext) (a b : Int) : readings (s.commitDelta c w a b) = readings s := rfl
@[simp] theorem readings_commit (x : ProfileCopy) : readings (s.commit x) = readings s := rfl
@[simp] theorem readings_noteAdmission : readings (s.noteAdmission f) = readings s := rfl
@[simp] theorem readings_recordWash (w : WashContext) (o : WashOutcome) (x y : Option FaultCause) (z : Option Snapshot) :
    readings (s.recordWash w o x y z) = readings s := rfl

@[simp] theorem readings_setDuty (p : SupplyPair) (u : UnitId) : readings (s.setDuty p u) = readings s := by cases p <;> rfl

@[simp] theorem readings_setUnitFault (p : SupplyPair) (u : UnitId) (v : Bool) :
    readings (s.setUnitFault p u v) = readings s := by cases p <;> rfl

@[simp] theorem readings_writeUnits (p : SupplyPair) (x : UnitSet) : readings (s.writeUnits p x) = readings s := by
  cases p <;> rfl

@[simp] theorem readings_writeStop (p : SupplyPair) : readings (s.writeStop p) = readings s := by cases p <;> rfl

@[simp] theorem readings_raise (k : NoticeKind) (n : Nat) : readings (s.raise k n) = readings s := by
  unfold State.raise
  split <;> rfl

@[simp] theorem readings_raiseIf (b : Bool) (k : NoticeKind) : readings (s.raiseIf b k) = readings s := by
  unfold State.raiseIf
  simp [apply_ite readings]

@[simp] theorem readings_drawIf (b : Bool) : readings (s.drawIf b) = readings s := by
  unfold State.drawIf
  split <;> rfl

@[simp] theorem readings_shedAdd : readings (s.shedAdd c) = readings s := by
  unfold State.shedAdd
  split <;> rfl

@[simp] theorem readings_removeEntry : readings (s.removeEntry f) = readings s := by
  unfold State.removeEntry
  split <;> rfl

@[simp] theorem readings_request (x : WashCause) : readings (s.request f x) = readings s := by
  rw [State.request_eq]
  rfl

/-! ### Filters and triggers -/

@[simp] theorem readings_evalFloorNow : readings s.evalFloorNow = readings s := by
  unfold State.evalFloorNow
  simp [apply_ite readings]

@[simp] theorem readings_evalFloor : readings s.evalFloor = readings s := by
  unfold State.evalFloor
  simp [apply_ite readings]

@[simp] theorem readings_changeState (x : FilterState) : readings (s.changeState f x) = readings s := by
  unfold State.changeState
  simp [apply_ite readings]

@[simp] theorem readings_startMovement (b : Bool) : readings (s.startMovement f b) = readings s := by
  unfold State.startMovement
  simp

@[simp] theorem readings_completeMovement (b : Bool) : readings (s.completeMovement f b) = readings s := by
  unfold State.completeMovement
  simp [apply_ite readings]

@[simp] theorem readings_movementAnswer : readings (s.movementAnswer f) = readings s := by
  unfold State.movementAnswer
  split <;> simp [apply_ite readings]

@[simp] theorem readings_takeLocal : readings (s.takeLocal f) = readings s := by
  unfold State.takeLocal
  simp

@[simp] theorem readings_surveyOfOne (w : BitVec 16) (b : Bool) : readings (s.surveyOfOne f w b) = readings s := by
  unfold State.surveyOfOne
  simp [apply_ite readings]

@[simp] theorem readings_watchDrift : readings (s.watchDrift f) = readings s := by
  unfold State.watchDrift
  simp only []
  split <;> simp [apply_ite readings]

@[simp] theorem readings_latchTrip (i : Fin 16) : readings (s.latchTrip f i) = readings s := by
  unfold State.latchTrip
  simp only []
  split <;> simp [apply_ite readings]

@[simp] theorem readings_requestIf (b : Bool) (x : WashCause) : readings (s.requestIf b f x) = readings s := by
  unfold State.requestIf
  simp [apply_ite readings]

theorem readings_evalTriggers (b : Bool) : readings (s.evalTriggers f b) = readings s := by
  unfold State.evalTriggers
  split
  · simp only [readings_requestIf]
    rfl
  · rfl

/-! ### Exits -/

@[simp] theorem readings_releaseCommitments : readings (s.releaseCommitments c) = readings s := by
  unfold State.releaseCommitments
  exact readings_withCtx fun w => readings_commitDelta ..

@[simp] theorem readings_subtractStep : readings (s.subtractStep c) = readings s := by
  unfold State.subtractStep
  refine readings_withCtx fun w => ?_
  split <;> simp

@[simp] theorem readings_writePattern (p : Pattern) : readings (s.writePattern f p) = readings s := by
  unfold State.writePattern
  simp

@[simp] theorem readings_stopSupply (p : SupplyPair) : readings (s.stopSupply c p) = readings s := by
  unfold State.stopSupply
  simp

@[simp] theorem readings_stopHeld : readings (s.stopHeld c) = readings s := by
  unfold State.stopHeld
  simp [apply_ite readings]

@[simp] theorem readings_decideExitAs (w : WashContext) (k : ExitKind) (x : Option FaultCause) (v : Option Valve) :
    readings (s.decideExitAs c w k x v) = readings s := by
  unfold State.decideExitAs
  simp

@[simp] theorem readings_decideExit (x : Option FaultCause) (v : Option Valve) :
    readings (s.decideExit c x v) = readings s := by
  unfold State.decideExit
  simp [apply_ite readings]

/-! ### Steps and headers -/

@[simp] theorem readings_dropHolding (h : Header) : readings (s.dropHolding c h) = readings s := rfl

@[simp] theorem readings_freeSlot : readings (s.freeSlot c) = readings s := by
  unfold State.freeSlot
  simp

@[simp] theorem readings_enterSetting : readings (s.enterSetting c) = readings s := by
  unfold State.enterSetting
  simp

@[simp] theorem readings_tryHeaders (l : List Header) : readings (s.tryHeaders c l) = readings s := by
  induction l generalizing s with
  | nil => exact readings_enterSetting s c
  | cons h hs ih =>
    unfold State.tryHeaders
    simp [apply_ite readings, ih, State.addHolding, State.addWaiter]

@[simp] theorem readings_acquire : readings (s.acquire c) = readings s := by
  unfold State.acquire
  simp

@[simp] theorem readings_beginStep (i : Nat) : readings (s.beginStep c i) = readings s := by
  unfold State.beginStep
  simp

@[simp] theorem readings_grantOnward (h : Header) (n : Nat) : readings (s.grantOnward h n) = readings s := by
  induction n generalizing s with
  | zero => rfl
  | succ n ih =>
    unfold State.grantOnward
    split
    · split
      · rfl
      · simp [ih, State.addHolding]
    · rfl

@[simp] theorem readings_grantFreed (h : Header) : readings (s.grantFreed h) = readings s := by
  unfold State.grantFreed
  simp

@[simp] theorem readings_releaseHolding (h : Header) : readings (s.releaseHolding c h) = readings s := by
  unfold State.releaseHolding
  cases h <;> simp [apply_ite readings, Header.pair?]

@[simp] theorem readings_releaseHoldings : readings (s.releaseHoldings c) = readings s := by
  unfold State.releaseHoldings
  simp

@[simp] theorem readings_enterTiming : readings (s.enterTiming c) = readings s := rfl

@[simp] theorem readings_markWashed : readings (s.markWashed c) = readings s := rfl

@[simp] theorem readings_enterHoldpoint : readings (s.enterHoldpoint c) = readings s := by
  unfold State.enterHoldpoint
  simp

@[simp] theorem readings_endStep : readings (s.endStep c) = readings s := by
  unfold State.endStep
  refine readings_withCtx fun w => ?_
  split <;> simp [apply_ite readings]

/-! ### Supplies and flow -/

@[simp] theorem readings_startUnit (p : SupplyPair) (u : UnitId) (x : UnitSet) :
    readings (s.startUnit c p u x) = readings s := by
  unfold State.startUnit
  simp

@[simp] theorem readings_startFailed (p : SupplyPair) : readings (s.startFailed c p) = readings s := by
  unfold State.startFailed
  simp

@[simp] theorem readings_startSupply (p : SupplyPair) : readings (s.startSupply c p) = readings s := by
  unfold State.startSupply
  refine readings_withCtx fun w => ?_
  split
  · split <;> simp
  · rfl

@[simp] theorem readings_enterRamping : readings (s.enterRamping c) = readings s := by
  unfold State.enterRamping State.writeSetpoint
  refine readings_withCtx fun w => ?_
  simp

@[simp] theorem readings_checkStarted : readings (s.checkStarted c) = readings s := by
  unfold State.checkStarted
  simp [apply_ite readings]

@[simp] theorem readings_enterStarting : readings (s.enterStarting c) = readings s := by
  unfold State.enterStarting
  refine readings_withCtx fun w => ?_
  rw [readings_checkStarted, readings_foldl fun t p => readings_startSupply t c p, readings_setCtx]

@[simp] theorem readings_failUnit (p : SupplyPair) (u : UnitId) : readings (s.failUnit p u) = readings s := by
  unfold State.failUnit
  simp

@[simp] theorem readings_runLoss (p : SupplyPair) (u : UnitId) : readings (s.runLoss c p u) = readings s := by
  unfold State.runLoss
  simp [apply_ite readings]

@[simp] theorem readings_superviseSupply (p : SupplyPair) : readings (s.superviseSupply c p) = readings s := by
  unfold State.superviseSupply
  refine readings_withCtx fun w => ?_
  split <;> simp [apply_ite readings]

@[simp] theorem readings_watchRamp : readings (s.watchRamp c) = readings s := by
  unfold State.watchRamp
  simp [apply_ite readings]

@[simp] theorem readings_watchLowFlow : readings (s.watchLowFlow c) = readings s := by
  unfold State.watchLowFlow
  refine readings_withCtx fun w => ?_
  split
  · split
    · split <;> simp [apply_ite readings]
    · simp
  · rfl

@[simp] theorem readings_pumpAnswerFor : readings (s.pumpAnswerFor c) = readings s := by
  unfold State.pumpAnswerFor
  simp [apply_ite readings]

/-! ### Orphans -/

@[simp] theorem readings_freeOrphan : readings (s.freeOrphan c) = readings s := by
  unfold State.freeOrphan
  simp [apply_ite readings]

@[simp] theorem readings_freeIfBare : readings (s.freeIfBare c) = readings s := by
  unfold State.freeIfBare
  simp [apply_ite readings]

@[simp] theorem readings_makeOrphan : readings (s.makeOrphan c) = readings s := by
  unfold State.makeOrphan
  simp

@[simp] theorem readings_orphan (x : FaultCause) (o : WashOutcome) : readings (s.orphan c x o) = readings s := by
  unfold State.orphan
  simp

@[simp] theorem readings_orphanWash (x : FaultCause) (o : WashOutcome) : readings (s.orphanWash f x o) = readings s := by
  unfold State.orphanWash
  split <;> simp

@[simp] theorem readings_releaseOrphanHolding (h : Header) : readings (s.releaseOrphanHolding c h) = readings s := by
  unfold State.releaseOrphanHolding
  simp [apply_ite readings]

@[simp] theorem readings_testOrphan : readings (s.testOrphan c) = readings s := by
  unfold State.testOrphan
  simp [apply_ite readings]

@[simp] theorem readings_testOrphans : readings s.testOrphans = readings s := readings_foldl readings_testOrphan ..

/-! ### Ends of a wash -/

@[simp] theorem readings_returnToService {g : FilterRecord → FilterRecord} (h : ∀ r, (g r).reading = r.reading) :
    readings (s.returnToService f g) = readings s := by
  unfold State.returnToService
  exact (readings_changeState ..).trans (readings_modFilter fun r => h _)

@[simp] theorem readings_returnHeld : readings (s.returnHeld f) = readings s := by
  unfold State.returnHeld
  simp

@[simp] theorem readings_requestRewash (o : WashOutcome) : readings (s.requestRewash f o) = readings s := by
  unfold State.requestRewash
  simp [apply_ite readings]

@[simp] theorem readings_completeWash : readings (s.completeWash c) = readings s := by
  have accounting : ∀ r, (freshlyWashed r).reading = r.reading := fun _ => rfl
  unfold State.completeWash
  refine readings_withCtx fun w => ?_
  simp [readings_returnToService _ _ accounting]

@[simp] theorem readings_endExit (k : ExitKind) : readings (s.endExit c k) = readings s := by
  cases k
  · unfold State.endExit State.endReturnExit State.reinsert
    simp
  · unfold State.endExit State.endSafeExit
    simp [apply_ite readings]
  · unfold State.endExit State.endLateExit
    simp

@[simp] theorem readings_convertExit : readings (s.convertExit c) = readings s := by
  unfold State.convertExit
  simp

@[simp] theorem readings_stepConfirmed : readings (s.stepConfirmed c) = readings s := by
  unfold State.stepConfirmed
  refine readings_withCtx fun w => ?_
  split <;> simp

@[simp] theorem readings_watchRipen : readings (s.watchRipen c) = readings s := by
  unfold State.watchRipen State.ripenGood
  refine readings_withCtx fun w => ?_
  split
  · split <;> simp [apply_ite readings]
  · rfl

@[simp] theorem readings_timingAnswer : readings (s.timingAnswer c) = readings s := by
  unfold State.timingAnswer
  refine readings_withCtx fun w => ?_
  split
  · exact readings_endStep s c
  · simp only []
    split <;> simp [apply_ite readings]

@[simp] theorem readings_settingAnswer : readings (s.settingAnswer c) = readings s := by
  unfold State.settingAnswer
  refine readings_withCtx fun w => ?_
  split
  · split <;> simp
  · rfl

@[simp] theorem readings_activeAnswer (b : Bool) : readings (s.activeAnswer c b) = readings s := by
  unfold State.activeAnswer
  split
  · simp
  · refine readings_withCtx fun w => ?_
    split <;> simp

@[simp] theorem readings_exitAnswer (b : Bool) : readings (s.exitAnswer c b) = readings s := by
  unfold State.exitAnswer
  refine readings_withCtx fun w => ?_
  split <;> simp [apply_ite readings]

@[simp] theorem readings_sequencerAnswer (b : Bool) : readings (s.sequencerAnswer c b) = readings s := by
  unfold State.sequencerAnswer
  refine readings_withCtx fun w => ?_
  simp only []
  split <;> simp

@[simp] theorem readings_washAnswer (b : Bool) : readings (s.washAnswer f b) = readings s := by
  unfold State.washAnswer
  split <;> simp

/-! ### The LOCAL switch and classifications -/

@[simp] theorem readings_localSwitch : readings (s.localSwitch f) = readings s := by
  unfold State.localSwitch
  split
  · rfl
  · split <;> simp [apply_ite readings]

@[simp] theorem readings_classify (w : BitVec 16) (x y : Bool) : readings (s.classify f w x y) = readings s := by
  unfold State.classify
  simp [apply_ite readings]

/-! ### The admission unit -/

@[simp] theorem readings_isolationPass : readings s.isolationPass = readings s := by
  refine readings_foldl (fun t e => ?_) ..
  unfold State.passEntry
  simp [apply_ite readings]

@[simp] theorem readings_shedding : readings s.shedding = readings s := by
  unfold State.shedding
  refine (apply_ite readings ..).trans ?_
  rw [readings_foldl fun t x => ?_, ite_self]
  unfold State.shedOne
  exact (readings_withCtx fun w => by simp).trans (readings_shedAdd ..)

@[simp] theorem readings_admitFilter (n : Nat) (l : List ProfileStep) : readings (s.admitFilter f c n l) = readings s := by
  unfold State.admitFilter State.takeToWash
  simp

@[simp] theorem readings_admissionCheck : readings s.admissionCheck = readings s := by
  unfold State.admissionCheck State.walk
  split
  · simp
  · split
    · simp
    · split <;> simp

@[simp] theorem readings_admissionUnit : readings s.admissionUnit = readings s := by
  unfold State.admissionUnit
  split <;> simp

@[simp] theorem readings_watchVolumes : readings s.watchVolumes = readings s := by
  unfold State.watchVolumes
  simp

end Sys2Proof.Machine

/-! Supply answers (R107, R148, R154, R175). -/

namespace Sys2Proof.Claim

open Sys2Proof.Machine Sys2Proof.Safety

variable {s t : State} {f : FilterId} {n : NodeId} {c : Slot} {code : PollCode} {a : Answer}

/-! ### What an answer does to the link (R151, R153) -/

theorem answerHeard_links (s : State) (n : NodeId) (a : Answer) :
    (answerHeard s n a).gbm.links = s.gbm.links.set n.index.val (heardFrom s (s.link n) a) := by
  unfold answerHeard
  dsimp only
  split
  · rw [State.raise_eq]
  · rfl

theorem answerHeard_settings (s : State) (n : NodeId) (a : Answer) : (answerHeard s n a).gbm.settings = s.gbm.settings := by
  unfold answerHeard
  dsimp only
  split
  · rw [State.raise_eq]
  · rfl

/-- An answer that is heard writes its link, and a notice. -/
theorem answerHeard_frame (s : State) (n : NodeId) (a : Answer) :
    ∃ nu, answerHeard s n a = { s with
      gbm := { s.gbm with links := s.gbm.links.set n.index.val (heardFrom s (s.link n) a) }, nu := nu } := by
  unfold answerHeard
  dsimp only
  split
  · exact ⟨_, State.raise_eq ..⟩
  · exact ⟨s.nu, rfl⟩

/-! ### The end of a transaction -/

theorem exec_validAnswer (running : Running s) (awaits : s.gbm.phase = .awaiting n code) (valid : validAnswer n code a) :
    ∀ i ∈ [Instr.filterInputAnswer a, .filterTotalizerAnswer a, .supplyNodeAnswer a],
      exec i s = .next ((s.handAnswer n code a).endTransaction n) := fun _ row => by
  rw [exec_answer s a row, State.whenRunning_of_running running, takeAnswer_of_valid awaits valid]

/-- The GBM, having stored an answer, hands it on to blocks that write neither links nor settings. -/
structure HandedOn (s : State) (n : NodeId) (a : Answer) (t : State) : Prop where
  links    : t.gbm.links = s.gbm.links.set n.index.val (heardFrom s (s.link n) a)
  settings : t.gbm.settings = s.gbm.settings

theorem HandedOn.step {u : State} (h : HandedOn s n a t) (k : PlantStep t u) : HandedOn s n a u :=
  ⟨k.links.trans h.links, k.settings.trans h.settings⟩

theorem HandedOn.link (h : HandedOn s n a t) (m : NodeId) : t.link m = if m = n then heardFrom s (s.link m) a else s.link m := by
  rw [link_of_set h.links]
  by_cases own : m = n
  · rw [if_pos own, if_pos own, own]
  · rw [if_neg own, if_neg own]

/-! ### Answers of node 21 -/

/-- Node 21's answer as the GBM stores it. -/
def pumpsStored (s : State) (code : PollCode) (a : Answer) : State :=
  let t := answerHeard s .washWater a
  let old := s.gbm.washNode
  { t with
    gbm := { t.gbm with washNode := { old with
      input := some (pumpReadings a)
      owed := if code = .writeIo then old.owed && !decide (old.sent = some old.image) else old.owed
      sent := if code = .writeIo then none else old.sent } }
    nu := { t.nu with tankWatch := ⟨old.input.map fun x => x.tank, true⟩ } }

theorem pumpsTaken_eq (s : State) (code : PollCode) (a : Answer) :
    pumpsTaken s code a = (allSlots.foldl State.pumpAnswerFor (pumpsStored s code a)).testOrphans := by
  have answers : State.pumpAnswerFor = fun (t : State) (c : Slot) => match t.ctx c with
      | some w => flowWatched (supplyWatched t c .pumps) c w.phase
      | none => t := funext fun t => funext fun c => pumpAnswerFor_eq t c
  have tests : State.testOrphan = orphanTested := funext fun t => funext fun c => testOrphan_eq t c
  unfold State.testOrphans
  rw [tests, answers]
  rfl

theorem pumpAnswer_eq (s : State) (code : PollCode) (a : Answer) :
    s.pumpAnswer a.status (pumpInputOf a.payload) (decide (code = .writeIo)) = pumpsTaken s code a := by
  rw [pumpsTaken_eq]
  unfold State.pumpAnswer
  rw [hearNode_eq]
  obtain ⟨nu, heard⟩ := answerHeard_frame s .washWater a
  dsimp only
  congr 2
  unfold pumpsStored
  rw [heard]
  by_cases write : code = .writeIo
  · simp only [write, decide_true, if_true]
    rfl
  · simp only [write, decide_false, if_false, Bool.false_eq_true]
    rfl

theorem pumpsStored_handedOn (s : State) (code : PollCode) (a : Answer) :
    HandedOn s .washWater a (pumpsStored s code a) :=
  ⟨answerHeard_links s .washWater a, answerHeard_settings s .washWater a⟩

/-- The tests of the orphans and the acts for the contexts leave a state without contexts. -/
theorem foldl_idle {g : State → Slot → State} (idle : ∀ c, s.ctx c = none → g s c = s) (free : ∀ c, s.ctx c = none)
    (l : List Slot) : l.foldl g s = s := by
  induction l with
  | nil => rfl
  | cons c rest ih => rw [List.foldl_cons, idle c (free c), ih]

theorem testOrphans_idle (free : ∀ c, s.ctx c = none) : s.testOrphans = s :=
  foldl_idle (fun c none_ => if_neg (by unfold State.ctxIs; rw [none_]; exact Bool.false_ne_true)) free _

theorem pumpsTaken_idle (free : ∀ c, s.ctx c = none) (code : PollCode) (a : Answer) :
    pumpsTaken s code a = pumpsStored s code a := by
  have same : ∀ c, (pumpsStored s code a).ctx c = none := fun c => by
    obtain ⟨nu, heard⟩ := answerHeard_frame s .washWater a
    unfold pumpsStored
    rw [heard]
    exact free c
  have answers : allSlots.foldl State.pumpAnswerFor (pumpsStored s code a) = pumpsStored s code a :=
    foldl_idle (fun c none_ => State.withCtx_none none_ _) same _
  rw [pumpsTaken_eq, answers, testOrphans_idle same]

theorem pumpsTaken_readings (s : State) (code : PollCode) (a : Answer) :
    readings (pumpsTaken s code a) = readings (pumpsStored s code a) := by
  rw [pumpsTaken_eq, readings_testOrphans, readings_foldl readings_pumpAnswerFor]

theorem pumpsTaken_handedOn (s : State) (code : PollCode) (a : Answer) : HandedOn s .washWater a (pumpsTaken s code a) := by
  rw [pumpsTaken_eq]
  exact (pumpsStored_handedOn s code a).step
    ((PlantStep.foldl PlantStep.pumpAnswerFor ..).trans (PlantStep.testOrphans _))

/-! ### Answers of node 22 -/

/-- Node 22's answer as the GBM stores it. -/
def blowersStored (s : State) (code : PollCode) (a : Answer) : State :=
  let t := answerHeard s .airNode a
  let old := s.gbm.airNode
  { t with gbm := { t.gbm with airNode := { old with
    input := some (blowerReadings a)
    owed := if code = .writeIo then old.owed && !decide (old.sent = some old.image) else old.owed
    sent := if code = .writeIo then none else old.sent } } }

theorem blowersTaken_eq (s : State) (code : PollCode) (a : Answer) : blowersTaken s code a =
    (allSlots.foldl (fun t c => t.superviseSupply c .blowers) (blowersStored s code a)).testOrphans := by
  have answers : (fun (t : State) c => t.superviseSupply c .blowers) = fun t c => supplyWatched t c .blowers :=
    funext fun t => funext fun c => superviseSupply_eq t c .blowers
  have tests : State.testOrphan = orphanTested := funext fun t => funext fun c => testOrphan_eq t c
  unfold State.testOrphans
  rw [tests, answers]
  rfl

theorem blowerAnswer_eq (s : State) (code : PollCode) (a : Answer) :
    s.blowerAnswer a.status (blowerInputOf a.payload) (decide (code = .writeIo)) = blowersTaken s code a := by
  rw [blowersTaken_eq]
  unfold State.blowerAnswer
  rw [hearNode_eq]
  obtain ⟨nu, heard⟩ := answerHeard_frame s .airNode a
  dsimp only
  congr 2
  unfold blowersStored
  rw [heard]
  by_cases write : code = .writeIo
  · simp only [write, decide_true, if_true]
    rfl
  · simp only [write, decide_false, if_false, Bool.false_eq_true]
    rfl

theorem blowersTaken_idle (free : ∀ c, s.ctx c = none) (code : PollCode) (a : Answer) :
    blowersTaken s code a = blowersStored s code a := by
  have same : ∀ c, (blowersStored s code a).ctx c = none := fun c => by
    obtain ⟨nu, heard⟩ := answerHeard_frame s .airNode a
    unfold blowersStored
    rw [heard]
    exact free c
  have answers : allSlots.foldl (fun t c => t.superviseSupply c .blowers) (blowersStored s code a) = blowersStored s code a :=
    foldl_idle (fun c none_ => State.withCtx_none none_ _) same _
  rw [blowersTaken_eq, answers, testOrphans_idle same]

theorem blowersTaken_readings (s : State) (code : PollCode) (a : Answer) :
    readings (blowersTaken s code a) = readings (blowersStored s code a) := by
  rw [blowersTaken_eq, readings_testOrphans, readings_foldl fun t c => readings_superviseSupply t c .blowers]

theorem blowersTaken_handedOn (s : State) (code : PollCode) (a : Answer) : HandedOn s .airNode a (blowersTaken s code a) := by
  have stored : HandedOn s .airNode a (blowersStored s code a) :=
    ⟨answerHeard_links s .airNode a, answerHeard_settings s .airNode a⟩
  rw [blowersTaken_eq]
  exact stored.step ((PlantStep.foldl (fun t c => PlantStep.superviseSupply t c .blowers) ..).trans (PlantStep.testOrphans _))

/-! ### The statement -/

/-- A write that is owed is settled by its answer, and by no other. -/
theorem owed_eq (write owed settled : Bool) :
    (if write = true then owed && !settled else owed) = (owed && !(write && settled)) := by
  cases write
  · rw [Bool.false_and, Bool.not_false, Bool.and_true]
    rfl
  · rfl

theorem pumpsStored_node (s : State) (code : PollCode) (a : Answer) : (pumpsStored s code a).gbm.washNode =
    { image := s.gbm.washNode.image
      owed := s.gbm.washNode.owed && !(decide (code = .writeIo) && decide (s.gbm.washNode.sent = some s.gbm.washNode.image))
      sent := if code = .writeIo then none else s.gbm.washNode.sent
      input := some (pumpReadings a) } := by
  rw [← owed_eq]
  simp only [decide_eq_true_iff]
  rfl

theorem pumpsStored_watch (s : State) (code : PollCode) (a : Answer) :
    (pumpsStored s code a).nu.tankWatch = ⟨s.gbm.washNode.input.map fun x => x.tank, true⟩ := rfl

theorem blowersStored_node (s : State) (code : PollCode) (a : Answer) : (blowersStored s code a).gbm.airNode =
    { image := s.gbm.airNode.image
      owed := s.gbm.airNode.owed && !(decide (code = .writeIo) && decide (s.gbm.airNode.sent = some s.gbm.airNode.image))
      sent := if code = .writeIo then none else s.gbm.airNode.sent
      input := some (blowerReadings a) } := by
  rw [← owed_eq]
  simp only [decide_eq_true_iff]
  rfl

/-- Settles O25. -/
theorem supplyAnswersAreStored : Obligations.SupplyAnswersAreStored := by
  intro s code a running
  refine ⟨fun awaits valid => ?_, fun awaits valid => ?_⟩
  · have kept := pumpsTaken_readings s code a
    have wash := (wash_of_readings kept).trans (congrArg WashNode.input (pumpsStored_node s code a))
    have watch := (tankWatch_of_readings kept).trans (pumpsStored_watch s code a)
    have on := pumpsTaken_handedOn s code a
    have idle := fun free => (congrArg (fun t : State => t.gbm.washNode) (pumpsTaken_idle free code a)).trans
      (pumpsStored_node s code a)
    have taken := exec_validAnswer running awaits valid (.supplyNodeAnswer a) (by simp)
    rw [show s.handAnswer .washWater code a = pumpsTaken s code a from pumpAnswer_eq s code a] at taken
    generalize pumpsTaken s code a = u at *
    rw [endTransaction_next (m := .airNode) rfl] at taken
    exact ⟨_, taken, on.link, rfl, rfl, wash, watch, idle⟩
  · have kept := blowersTaken_readings s code a
    have air := (air_of_readings kept).trans (congrArg AirNode.input (blowersStored_node s code a))
    have on := blowersTaken_handedOn s code a
    have idle := fun free => (congrArg (fun t : State => t.gbm.airNode) (blowersTaken_idle free code a)).trans
      (blowersStored_node s code a)
    have taken := exec_validAnswer running awaits valid (.supplyNodeAnswer a) (by simp)
    rw [show s.handAnswer .airNode code a = blowersTaken s code a from blowerAnswer_eq s code a] at taken
    generalize blowersTaken s code a = u at *
    rw [endTransaction_next (m := .waste) rfl] at taken
    exact ⟨_, taken, on.link, rfl, rfl, air, idle⟩

end Sys2Proof.Claim

/-! Filter answers (R2, R10, R12, R14, R17, R18, R21, R152, R153). -/

namespace Sys2Proof.Claim

open Sys2Proof.Machine Sys2Proof.Safety

variable {s t : State} {f : FilterId} {n : NodeId} {c : Slot} {code : PollCode} {a : Answer}

/-! ### Storing an input answer (R148, R152) -/

theorem raise_setFnode (s : State) (k : NoticeKind) (m : Nat) (f : FilterId) (x : FilterNode) :
    (s.raise k m).setFnode f x = (s.setFnode f x).raise k m := by
  unfold State.raise
  by_cases on : s.noticeEnabled k = true
  · exact (congrArg (fun t : State => t.setFnode f x) (if_pos on)).trans
      (if_pos (show (s.setFnode f x).noticeEnabled k = true from on)).symm
  · exact (congrArg (fun t : State => t.setFnode f x) (if_neg on)).trans
      (if_neg (show ¬ (s.setFnode f x).noticeEnabled k = true from on)).symm

theorem setFnode_setFnode (s : State) (f : FilterId) (x y : FilterNode) : (s.setFnode f x).setFnode f y = s.setFnode f y := by
  unfold State.setFnode
  simp only [Vector.set_set]

theorem fnode_setFnode (s : State) (f : FilterId) (x : FilterNode) : (s.setFnode f x).fnode f = x :=
  Vector.getElem_set_self ..

/-- A filter node's entry after an input answer. -/
def nodeStored (old : FilterNode) (code : PollCode) (i : FilterInput) : FilterNode :=
  { old with
    input := some i
    changeSet := match old.input with
      | some x => x.word ^^^ i.word
      | none => 0
    owed := if code = .writeIo then old.owed && !decide (old.sent = some old.image) else old.owed
    sent := if code = .writeIo then none else old.sent }

theorem storeInput_eq (s : State) (f : FilterId) (code : PollCode) (i : FilterInput) :
    (let t := s.storeInput f i
     if decide (code = .writeIo) = true then t.setFnode f (t.fnode f).settle else t) =
      let x := nodeStored (s.fnode f) code i
      if x.changeSet &&& (s.filterConfig f).watchMask = 0 then s.setFnode f x
      else (s.setFnode f x).raise .change (filterNumber f) := by
  have same (k : FilterNode) : (s.setFnode f k).filterConfig f = s.filterConfig f := rfl
  have change : changeSetOf (s.fnode f).input i.word = (nodeStored (s.fnode f) code i).changeSet := by
    unfold changeSetOf nodeStored
    cases (s.fnode f).input <;> rfl
  unfold State.storeInput
  dsimp only
  rw [same, change]
  by_cases write : code = .writeIo
  · rw [if_pos (decide_eq_true write)]
    have settled : ({ s.fnode f with input := some i, changeSet := (nodeStored (s.fnode f) code i).changeSet } : FilterNode).settle =
        nodeStored (s.fnode f) code i := by
      unfold nodeStored FilterNode.settle
      rw [if_pos write, if_pos write]
    by_cases quiet : (nodeStored (s.fnode f) code i).changeSet &&& (s.filterConfig f).watchMask = 0
    · rw [if_pos quiet, if_pos quiet, fnode_setFnode, setFnode_setFnode, settled]
    · rw [if_neg quiet, if_neg quiet, raise_setFnode, setFnode_setFnode]
      refine congrArg (fun x => State.raise (s.setFnode f x) .change (filterNumber f)) ?_
      rw [State.raise_eq]
      exact (congrArg FilterNode.settle (fnode_setFnode ..)).trans settled
  · rw [if_neg (by simp [write])]
    have kept : ({ s.fnode f with input := some i, changeSet := (nodeStored (s.fnode f) code i).changeSet } : FilterNode) =
        nodeStored (s.fnode f) code i := by
      unfold nodeStored
      rw [if_neg write, if_neg write]
    rw [kept]

theorem inputStored_eq (s : State) (f : FilterId) (code : PollCode) (a : Answer) :
    inputStored s f code a =
      let t := answerHeard s (.filter f) a
      let x := nodeStored (s.fnode f) code (inputOf a)
      if x.changeSet &&& (s.filterConfig f).watchMask = 0 then t.setFnode f x
      else (t.setFnode f x).raise .change (filterNumber f) := by
  obtain ⟨nu, heard⟩ := answerHeard_frame s (.filter f) a
  unfold inputStored
  rw [heard]
  rfl

/-! ### The acts of the FT, the RA and the SS (R10, R12, R17, R18, R97, R110) -/

theorem localSwitch_eq (s : State) (f : FilterId) : s.localSwitch f = localTaken s f := by
  unfold State.localSwitch localTaken
  refine ite_congr rfl (fun _ => rfl) fun _ => ?_
  rw [orphanWash_eq]
  cases (s.filter f).state <;> rfl

theorem classify_eq (s : State) (f : FilterId) (word : BitVec 16) (localActive regained : Bool) :
    s.classify f word localActive regained = classifiedOn s f word localActive regained := by
  unfold State.classify State.classifiable classifiedOn
  simp only [Bool.and_eq_true, Bool.or_eq_true, decide_eq_true_iff, Bool.not_eq_true', bne_iff_ne, Option.isNone_iff_eq_none]
  by_cases barred : s.mc.mode = .survey ∨ s.orphanNames f = true
  · rw [if_pos barred, if_neg, if_neg]
    · rintro ⟨⟨⟨-, free⟩, mode⟩, -⟩
      exact barred.elim mode fun named => by rw [free] at named; cases named
    · rintro ⟨⟨-, free⟩, mode⟩
      exact barred.elim mode fun named => by rw [free] at named; cases named
  · obtain ⟨mode, free⟩ := not_or.1 barred
    rw [if_neg barred]
    simp only [mode, Bool.eq_false_iff.2 free, not_false_eq_true, and_true, ne_eq, and_assoc]

theorem washAnswer_eq (s : State) (f : FilterId) (tripped : Bool) : s.washAnswer f tripped = washTaken s f tripped := by
  unfold State.washAnswer washTaken
  cases s.slotNaming f with
  | none => rfl
  | some c =>
    simp only [← testOrphan_eq]
    rfl

/-- A valid input answer, taken by the blocks in the order of R153. -/
theorem inputAnswer_eq (s : State) (f : FilterId) (code : PollCode) (a : Answer) :
    s.inputAnswer f a.status (filterInputOf a.payload) (decide (code = .writeIo)) = inputTaken s f code a := by
  have config (t : State) (same : t.cs = s.cs) : t.filterConfig f = s.filterConfig f :=
    congrArg (fun x : ConfigStore => x.working.filters[f.val]) same
  have stored : (let t := (s.hearNode (.filter f) a.status).storeInput f (filterInputOf a.payload)
      if decide (code = .writeIo) = true then t.setFnode f (t.fnode f).settle else t) = inputStored s f code a := by
    obtain ⟨nu, heard⟩ := answerHeard_frame s (.filter f) a
    rw [hearNode_eq, storeInput_eq, inputStored_eq, heard]
    rfl
  unfold State.inputAnswer inputTaken State.filterTable
  dsimp only at stored ⊢
  rw [stored, localSwitch_eq]
  simp only [classify_eq, washAnswer_eq]
  rfl

/-! ### What the acts leave of the answer (R2, R14) -/

theorem readings_watchTrip (s : State) (f : FilterId) (word : BitVec 16) :
    readings (s.watchTrip f word).1 = readings (s.modFilter f fun r => { r with previousWord := word }) := by
  unfold State.watchTrip
  dsimp only
  split
  · rfl
  · split
    · rw [readings_latchTrip]
      rfl
    · rfl

theorem readings_localTaken (s : State) (f : FilterId) : readings (localTaken s f) = readings s := by
  rw [← localSwitch_eq]
  exact readings_localSwitch s f

/-- The readings of the filter's record after an input answer. -/
theorem inputTaken_record (s : State) (f : FilterId) (code : PollCode) (a : Answer) :
    ((inputTaken s f code a).filter f).reading =
      (viewOfWord (inputOf a).word, (inputOf a).headloss, (inputOf a).level, (inputOf a).turbidity, (inputOf a).word) := by
  unfold inputTaken
  dsimp only
  rw [← washAnswer_eq, ← classify_eq]
  generalize (if a.status.getLsbD 1 = true then localTaken (inputStored s f code a) f else inputStored s f code a) = t
  have viewed : ((viewTaken t f (inputOf a)).filter f).reading =
      (viewOfWord (inputOf a).word, (inputOf a).headloss, (inputOf a).level, (inputOf a).turbidity, (t.filter f).previousWord) := by
    unfold viewTaken
    rw [State.filter_modFilter_same]
  have acted : ∀ u : State, ((((u.movementAnswer f).classify f (inputOf a).word (a.status.getLsbD 1)
      (s.link (.filter f)).lost).watchDrift f).filter f).reading = (u.filter f).reading := fun u =>
    record_of_readings (by simp) f
  have before := (acted (viewTaken t f (inputOf a))).trans viewed
  generalize State.watchDrift _ f = v at before ⊢
  have tripped : ((v.watchTrip f (inputOf a).word).1.filter f).reading =
      ((v.modFilter f fun r => { r with previousWord := (inputOf a).word }).filter f).reading :=
    record_of_readings (readings_watchTrip ..) f
  refine (record_of_readings ((readings_washAnswer ..).trans (readings_evalTriggers ..)) f).trans (tripped.trans ?_)
  rw [State.filter_modFilter_same]
  simp only [Prod.mk.injEq] at before ⊢
  obtain ⟨view, headloss, level, turbidity, -⟩ := before
  exact ⟨view, headloss, level, turbidity, trivial⟩

/-- The readings of the filter node's entry after an input answer. -/
theorem inputTaken_node (s : State) (f : FilterId) (code : PollCode) (a : Answer) :
    ((inputTaken s f code a).fnode f).reading = (nodeStored (s.fnode f) code (inputOf a)).reading := by
  have stored : (inputStored s f code a).fnode f = nodeStored (s.fnode f) code (inputOf a) := by
    rw [inputStored_eq]
    dsimp only
    split
    · exact fnode_setFnode ..
    · rw [State.raise_eq]
      exact fnode_setFnode ..
  unfold inputTaken
  dsimp only
  rw [← washAnswer_eq, ← classify_eq]
  have switched : readings (if a.status.getLsbD 1 = true then localTaken (inputStored s f code a) f else inputStored s f code a) =
      readings (inputStored s f code a) := by
    split
    · exact readings_localTaken ..
    · rfl
  generalize (if a.status.getLsbD 1 = true then localTaken (inputStored s f code a) f else inputStored s f code a) = t at switched
  have acted : ∀ u : State, ((((u.movementAnswer f).classify f (inputOf a).word (a.status.getLsbD 1)
      (s.link (.filter f)).lost).watchDrift f).fnode f).reading = (u.fnode f).reading := fun u =>
    node_of_readings (by simp) f
  have before : _ = (t.fnode f).reading := acted (viewTaken t f (inputOf a))
  generalize State.watchDrift _ f = v at before ⊢
  have tripped : ((v.watchTrip f (inputOf a).word).1.fnode f).reading = (v.fnode f).reading :=
    node_of_readings (readings_watchTrip ..) f
  rw [node_of_readings ((readings_washAnswer ..).trans (readings_evalTriggers ..)) f, tripped, before, node_of_readings switched f,
    stored]

theorem inputTaken_handedOn (s : State) (f : FilterId) (code : PollCode) (a : Answer) :
    HandedOn s (.filter f) a (inputTaken s f code a) := by
  have stored : HandedOn s (.filter f) a (inputStored s f code a) := by
    obtain ⟨nu, heard⟩ := answerHeard_frame s (.filter f) a
    rw [inputStored_eq, heard]
    dsimp only
    split
    · exact ⟨rfl, rfl⟩
    · rw [State.raise_eq]
      exact ⟨rfl, rfl⟩
  unfold inputTaken
  dsimp only
  rw [← washAnswer_eq, ← classify_eq, ← localSwitch_eq]
  exact stored.step ((((((((PlantStep.ite (PlantStep.localSwitch ..) (PlantStep.refl _)).trans (PlantStep.modFilter ..)).trans
    (PlantStep.movementAnswer ..)).trans (PlantStep.classify ..)).trans (PlantStep.watchDrift ..)).trans
    (PlantStep.watchTrip ..)).trans (PlantStep.evalTriggers ..)).trans (PlantStep.washAnswer ..))

/-! ### Totalizer answers (R10, R21) -/

theorem requestIf_ft (s : State) (met : Bool) (f : FilterId) (x : WashCause) : (s.requestIf met f x).ft = s.ft := by
  unfold State.requestIf
  split
  · rw [State.request_eq]
  · rfl

theorem evalTriggers_filter (s : State) (f : FilterId) (isInput : Bool) (g : FilterId) :
    (s.evalTriggers f isInput).filter g = s.filter g := by
  have ft : (s.evalTriggers f isInput).ft = s.ft := by
    unfold State.evalTriggers
    split
    · simp only [requestIf_ft]
      rfl
    · rfl
  exact congrArg (fun t : FilterTable => t.records[g.val]) ft

/-- The LOCAL switch leaves a total clear that is asked for. -/
theorem localTaken_totalClear (s : State) (f : FilterId) :
    ((localTaken s f).filter f).totalClear = (s.filter f).totalClear := by
  have gone : (((s.modFilter f fun r => { r with
      pending := none, held := none, fault := none, classifyDue := false }).changeState f .localCtl).filter f).totalClear =
        (s.filter f).totalClear := by
    rw [State.changeState_filter_same, State.filter_modFilter_same]
  unfold localTaken
  dsimp only
  split
  · rfl
  · split
    · exact gone
    · exact gone
    · exact gone
    · split
      · rfl
      · exact gone
    · exact (orphanedWash_record (part := FilterRecord.totalClear) (fun _ _ => rfl) ..).trans gone
    · rfl
    · rfl

/-- A totalizer answer as the GBM stores it. -/
def totalStored (s : State) (f : FilterId) (a : Answer) : State :=
  (answerHeard s (.filter f) a).setFnode f { s.fnode f with totalizer := some (totalizerOf a.payload) }

/-- A totalizer answer after the LOCAL switch. -/
def totalSwitched (s : State) (f : FilterId) (a : Answer) : State :=
  if a.status.getLsbD 1 = true then localTaken (totalStored s f a) f else totalStored s f a

/-- A filter's record after a totalizer answer (R10, R21). -/
def totalRecorded (r : FilterRecord) (due : Bool) (code : PollCode) (v : BitVec 32) : FilterRecord :=
  { r with
    classifyDue := if due then true else r.classifyDue
    filteredVolume := if code = .clearTotal then 0 else v.toNat
    totalClear := if code = .clearTotal then false else r.totalClear }

/-- A classification comes due on a totalizer answer (R10). -/
def totalDue (s : State) (f : FilterId) (a : Answer) : Bool :=
  (s.link (.filter f)).lost && (totalSwitched s f a).classifiable f

theorem totalStored_mode (s : State) (f : FilterId) (a : Answer) : (totalStored s f a).mc = s.mc := by
  obtain ⟨nu, heard⟩ := answerHeard_frame s (.filter f) a
  unfold totalStored
  rw [heard]
  rfl

theorem totalStored_handedOn (s : State) (f : FilterId) (a : Answer) : HandedOn s (.filter f) a (totalStored s f a) :=
  ⟨answerHeard_links s (.filter f) a, answerHeard_settings s (.filter f) a⟩

theorem totalSwitched_step (s : State) (f : FilterId) (a : Answer) : PlantStep (totalStored s f a) (totalSwitched s f a) := by
  unfold totalSwitched
  rw [← localSwitch_eq]
  exact PlantStep.ite (PlantStep.localSwitch ..) (PlantStep.refl _)

theorem totalTaken_eq (s : State) (f : FilterId) (code : PollCode) (a : Answer) : totalTaken s f code a =
    ((totalSwitched s f a).modFilter f fun r => totalRecorded r (totalDue s f a) code (totalizerOf a.payload)).evalTriggers
      f false := by
  have mode : (totalSwitched s f a).mc.mode = s.mc.mode :=
    congrArg ModeControl.mode ((totalSwitched_step s f a).mc.trans (totalStored_mode s f a))
  have stored : ({ answerHeard s (.filter f) a with gbm := { (answerHeard s (.filter f) a).gbm with
      filterNodes := s.gbm.filterNodes.set f.val { s.fnode f with totalizer := some (BitVec.ofNat 32 (u32 a.payload 0)) } } } :
        State) = totalStored s f a := by
    obtain ⟨nu, heard⟩ := answerHeard_frame s (.filter f) a
    unfold totalStored
    rw [heard]
    rfl
  have due : totalDue s f a = decide ((s.link (.filter f)).lost = true ∧ ((totalSwitched s f a).filter f).state = .unknown ∧
      ((totalSwitched s f a).filter f).pending = none ∧ (totalSwitched s f a).orphanNames f = false ∧ s.mc.mode ≠ .survey) := by
    unfold totalDue State.classifiable
    rw [mode, Bool.eq_iff_iff, decide_eq_true_iff]
    simp only [Bool.and_eq_true, decide_eq_true_iff, Bool.not_eq_true', bne_iff_ne, Option.isNone_iff_eq_none, and_assoc]
  rw [due]
  unfold totalTaken
  dsimp only
  rw [stored]
  rfl

theorem totalizerAnswer_eq (s : State) (f : FilterId) (code : PollCode) (a : Answer) :
    s.totalizerAnswer f a.status (totalizerOf a.payload) (decide (code = .clearTotal)) = totalTaken s f code a := by
  have stored : (let t := s.hearNode (.filter f) a.status
      t.setFnode f { t.fnode f with totalizer := some (totalizerOf a.payload) }) = totalStored s f a := by
    obtain ⟨nu, heard⟩ := answerHeard_frame s (.filter f) a
    unfold totalStored
    rw [hearNode_eq, heard]
    rfl
  have switched : (if statusLocal a.status = true then (totalStored s f a).localSwitch f else totalStored s f a) =
      totalSwitched s f a := by
    rw [localSwitch_eq]
    rfl
  have recorded (u : State) (due : Bool) : (if due = true then u.modFilter f fun r => { r with classifyDue := true } else u).takeTotal f
      (totalizerOf a.payload) (decide (code = .clearTotal)) =
        u.modFilter f fun r => totalRecorded r due code (totalizerOf a.payload) := by
    unfold State.takeTotal totalRecorded
    cases due <;> by_cases clear : code = .clearTotal <;> simp [clear, modFilter_modFilter]
  rw [totalTaken_eq, ← recorded]
  unfold State.totalizerAnswer
  dsimp only at stored ⊢
  rw [stored, switched]
  rfl

theorem totalTaken_handedOn (s : State) (f : FilterId) (code : PollCode) (a : Answer) :
    HandedOn s (.filter f) a (totalTaken s f code a) := by
  rw [totalTaken_eq]
  exact (totalStored_handedOn s f a).step (((totalSwitched_step s f a).trans (PlantStep.modFilter ..)).trans
    (PlantStep.evalTriggers ..))

theorem totalSwitched_readings (s : State) (f : FilterId) (a : Answer) :
    readings (totalSwitched s f a) = readings (totalStored s f a) := by
  unfold totalSwitched
  split
  · exact readings_localTaken ..
  · rfl

/-- The entry of the filter node after a totalizer answer. -/
theorem totalTaken_node (s : State) (f : FilterId) (code : PollCode) (a : Answer) :
    ((totalTaken s f code a).fnode f).reading =
      ((s.fnode f).input, (s.fnode f).changeSet, some (totalizerOf a.payload)) := by
  have stored : (totalStored s f a).fnode f = { s.fnode f with totalizer := some (totalizerOf a.payload) } := fnode_setFnode ..
  rw [totalTaken_eq]
  refine (node_of_readings (readings_evalTriggers ..) f).trans ?_
  show ((totalSwitched s f a).fnode f).reading = _
  rw [node_of_readings (totalSwitched_readings s f a) f, stored]

/-- The filter's record after a totalizer answer. -/
theorem totalTaken_record (s : State) (f : FilterId) (code : PollCode) (a : Answer) :
    ((totalTaken s f code a).filter f).view = (s.filter f).view ∧
      ((totalTaken s f code a).filter f).filteredVolume = (if code = .clearTotal then 0 else (totalizerOf a.payload).toNat) ∧
      ((totalTaken s f code a).filter f).totalClear = (if code = .clearTotal then false else (s.filter f).totalClear) := by
  have stored : (totalStored s f a).filter f = s.filter f := by
    obtain ⟨nu, heard⟩ := answerHeard_frame s (.filter f) a
    unfold totalStored
    rw [heard]
    rfl
  have view : ((totalSwitched s f a).filter f).view = (s.filter f).view :=
    (congrArg Prod.fst (record_of_readings (totalSwitched_readings s f a) f)).trans (congrArg FilterRecord.view stored)
  have clear : ((totalSwitched s f a).filter f).totalClear = (s.filter f).totalClear := by
    unfold totalSwitched
    split
    · rw [localTaken_totalClear, stored]
    · rw [stored]
  rw [totalTaken_eq, evalTriggers_filter, State.filter_modFilter_same, ← clear]
  exact ⟨view, rfl, rfl⟩

/-! ### The statement -/

/-- The bits of a valve in an input word, as R2 reads them. -/
theorem viewOfWord_get (word : BitVec 16) (v : Valve) : (viewOfWord word).get v =
    if word.getLsbD (2 * v.index) = true ∧ word.getLsbD (2 * v.index + 1) = false then .opened
    else if word.getLsbD (2 * v.index) = false ∧ word.getLsbD (2 * v.index + 1) = true then .closed
    else .travelling := by
  unfold viewOfWord
  rw [PerValve.get_ofFn]
  cases word.getLsbD (2 * v.index) <;> cases word.getLsbD (2 * v.index + 1) <;> rfl

/-- A node after each filter node. -/
theorem exists_nodeAfter (s : State) (f : FilterId) : ∃ m, nodeAfter s (.filter f) m := by
  by_cases inside : f.val + 1 < 20 ∧ f.val + 1 < s.gbm.settings.filterCount
  · exact ⟨.filter ⟨f.val + 1, inside.1⟩, rfl, inside.2⟩
  · exact ⟨.washWater, inside⟩

/-- The end of the transaction of a filter node whose answer has been handed on. -/
theorem HandedOn.ended {u : State} (h : HandedOn s (.filter f) a u) {m : NodeId} (after : nodeAfter s (.filter f) m) :
    u.endTransaction (.filter f) = { u with gbm := { u.gbm with phase := .due m } } :=
  endTransaction_next (nextNode_of_after h.settings after)

theorem HandedOn.due_unique {u : State} (h : HandedOn s (.filter f) a u) {m k : NodeId} (first : nodeAfter s (.filter f) m)
    (second : nodeAfter s (.filter f) k) : m = k :=
  Option.some.inj ((nextNode_of_after h.settings first).symm.trans (nextNode_of_after h.settings second))

theorem exec_filterInputAnswer (running : Running s) (awaits : s.gbm.phase = .awaiting (.filter f) code)
    (valid : validAnswer (.filter f) code a) (input : code = .readIo ∨ code = .writeIo) :
    exec (.filterInputAnswer a) s = .next ((inputTaken s f code a).endTransaction (.filter f)) := by
  have handed : s.handAnswer (.filter f) code a = inputTaken s f code a := by
    have isInput : code.isInput = true := by rcases input with rfl | rfl <;> rfl
    exact (if_pos isInput).trans (inputAnswer_eq s f code a)
  rw [exec_validAnswer running awaits valid _ (by simp), handed]

theorem exec_filterTotalizerAnswer (running : Running s) (awaits : s.gbm.phase = .awaiting (.filter f) code)
    (valid : validAnswer (.filter f) code a) (total : code = .readTotal ∨ code = .clearTotal) :
    exec (.filterTotalizerAnswer a) s = .next ((totalTaken s f code a).endTransaction (.filter f)) := by
  have handed : s.handAnswer (.filter f) code a = totalTaken s f code a := by
    have isInput : ¬ code.isInput = true := by rcases total with rfl | rfl <;> exact Bool.false_ne_true
    exact (if_neg isInput).trans (totalizerAnswer_eq s f code a)
  rw [exec_validAnswer running awaits valid _ (by simp), handed]

/-- Settles O24. -/
theorem filterAnswersAreStored : Obligations.FilterAnswersAreStored := by
  intro s f code a running awaits valid
  obtain ⟨m, after⟩ := exists_nodeAfter s f
  refine ⟨fun input => ?_, fun input k next => ?_, fun total k next => ?_, fun total => ?_⟩
  · have on := inputTaken_handedOn s f code a
    have record := inputTaken_record s f code a
    have node := inputTaken_node s f code a
    have taken := exec_filterInputAnswer running awaits valid input
    generalize inputTaken s f code a = u at *
    rw [on.ended after] at taken
    simp only [Prod.mk.injEq] at record node
    obtain ⟨view, headloss, level, turbidity, previous⟩ := record
    obtain ⟨input, change, -⟩ := node
    refine ⟨_, taken, on.link, fun k next => congrArg ScanPhase.due (on.due_unique after next), input, change, headloss, level, turbidity,
      previous, fun v => ?_⟩
    exact (congrArg (fun p : PerValve ValveView => p.get v) view).trans (viewOfWord_get _ v)
  · rw [exec_filterInputAnswer running awaits valid input, (inputTaken_handedOn s f code a).ended next]
  · rw [exec_filterTotalizerAnswer running awaits valid total, (totalTaken_handedOn s f code a).ended next]
  · have on := totalTaken_handedOn s f code a
    have record := totalTaken_record s f code a
    have node := totalTaken_node s f code a
    have taken := exec_filterTotalizerAnswer running awaits valid total
    generalize totalTaken s f code a = u at *
    rw [on.ended after] at taken
    simp only [Prod.mk.injEq] at node
    obtain ⟨input, -, totalizer⟩ := node
    obtain ⟨view, volume, clear⟩ := record
    exact ⟨_, taken, on.link, fun k next => congrArg ScanPhase.due (on.due_unique after next), totalizer, input, view, volume, clear⟩

end Sys2Proof.Claim

/-! Scan completions (R41, R50, R61 to R63, R143, R144, R147, R175, R185). -/

namespace Sys2Proof.Claim

open Sys2Proof.Machine Sys2Proof.Safety

variable {s t u : State} {f : FilterId} {c : Slot} {a : Answer}

/-! ### The isolation pass (R41) -/

theorem startMovement_eq_moved (s : State) (f : FilterId) (toService : Bool) : s.startMovement f toService = moved s f toService := by
  cases toService <;> rfl

theorem passConsiders_iff (s : State) (e : QueueEntry) : s.passConsiders e = true ↔
    e.cls = .breakthrough ∧ (s.filter e.filter).state = .service ∧ (s.filter e.filter).pending = none := by
  unfold State.passConsiders State.inService
  rw [Bool.and_eq_true, Bool.and_eq_true, decide_eq_true_iff, decide_eq_true_iff, Option.isNone_iff_eq_none, and_assoc]

theorem roomToIsolate_iff (s : State) : s.roomToIsolate = true ↔ s.au.required + leavingCount s + 1 ≤ inServiceCount s := by
  rw [leavingCount_eq_isolatingCount]
  exact decide_eq_true_iff

theorem passEntry_skips {e : QueueEntry} (skipped : ¬ s.passConsiders e = true) : s.passEntry e = s := if_neg skipped

theorem passEntry_set {e : QueueEntry} {x : FilterSettings} (considered : s.passConsiders e = true)
    (settings : (s.filterConfig e.filter).settings = some x) :
    s.passEntry e = if x.isolate = true ∧ s.roomToIsolate = true then moved s e.filter false else s := by
  unfold State.passEntry
  rw [if_pos considered, settings]
  simp only [Bool.and_eq_true, startMovement_eq_moved]
  rfl

theorem passEntry_unset {e : QueueEntry} (considered : s.passConsiders e = true)
    (settings : (s.filterConfig e.filter).settings = none) :
    let drawn := { s with free := s.free + 1 }
    s.passEntry e = if Config.freeConditionHolds s.free 4 = true ∧ s.roomToIsolate = true then moved drawn e.filter false
      else drawn := by
  unfold State.passEntry
  rw [if_pos considered, settings]
  simp only [Bool.and_eq_true, startMovement_eq_moved]
  rfl

/-! ### Shedding (R61 to R63) -/

theorem shedOne_eq_shedExit : State.shedOne = shedExit := by
  funext s x
  unfold State.shedOne shedExit
  have added : s.shedAdd x.1 = if x.1 ∈ s.au.shed then s else { s with au := { s.au with shed := s.au.shed ++ [x.1] } } := rfl
  have ctx : (s.shedAdd x.1).ctx x.1 = s.ctx x.1 := by
    rw [added]
    split <;> rfl
  unfold State.withCtx
  rw [ctx]
  cases s.ctx x.1 with
  | none => rfl
  | some w => exact decideExitAs_eq ..

/-- A slot put into a sorted list of others leaves it sorted. -/
theorem insertSlot_pairwise {before : Slot → Slot → Bool}
    (trans : ∀ a b c, before a b = true → before b c = true → before a c = true)
    (total : ∀ a b, a ≠ b → before a b = true ∨ before b a = true) {l : List Slot} (fresh : c ∉ l)
    (sorted : l.Pairwise fun a b => before a b = true) : (insertSlot before c l).Pairwise fun a b => before a b = true := by
  induction l with
  | nil => exact List.pairwise_singleton ..
  | cons d ds ih =>
    obtain ⟨first, rest⟩ := List.pairwise_cons.1 sorted
    obtain ⟨other, fresh⟩ := not_or.1 (mt List.mem_cons.2 fresh)
    unfold insertSlot
    split
    · rename_i ahead
      refine List.pairwise_cons.2 ⟨fun x m => ?_, sorted⟩
      rcases List.mem_cons.1 m with rfl | m
      · exact ahead
      · exact trans _ _ _ ahead (first x m)
    · rename_i behind
      refine List.pairwise_cons.2 ⟨fun x m => ?_, ih fresh rest⟩
      rcases List.mem_cons.1 ((insertSlot_perm before c ds).mem_iff.1 m) with rfl | m
      · exact (total _ _ other).resolve_left behind
      · exact first x m

theorem sortSlots_pairwise {before : Slot → Slot → Bool}
    (trans : ∀ a b c, before a b = true → before b c = true → before a c = true)
    (total : ∀ a b, a ≠ b → before a b = true ∨ before b a = true) {l : List Slot} (once : l.Nodup) :
    (sortSlots before l).Pairwise fun a b => before a b = true := by
  induction l with
  | nil => exact List.Pairwise.nil
  | cons c cs ih =>
    obtain ⟨fresh, once⟩ := List.nodup_cons.1 once
    exact insertSlot_pairwise trans total (mt (sortSlots_perm before cs).mem_iff.1 fresh) (ih once)

theorem slots_nodup (p : Slot → Bool) : (allSlots.filter p).Nodup := (List.nodup_finRange 4).filter p

theorem ripeningGroup_pairwise (s : State) : s.ripeningGroup.Pairwise fun c d =>
    s.phaseElapsed d < s.phaseElapsed c ∨ (s.phaseElapsed d = s.phaseElapsed c ∧ c < d) := by
  have sorted := sortSlots_pairwise
    (before := fun c d => s.phaseElapsed d < s.phaseElapsed c || s.phaseElapsed d = s.phaseElapsed c && c < d)
    (fun a b c => by
      simp only [Bool.or_eq_true, Bool.and_eq_true, decide_eq_true_iff, Fin.lt_def]
      omega)
    (fun a b other => by
      have := Fin.val_ne_of_ne other
      simp only [Bool.or_eq_true, Bool.and_eq_true, decide_eq_true_iff, Fin.lt_def]
      omega)
    (slots_nodup fun c => s.shedable c && s.ripening c)
  simp only [Bool.or_eq_true, Bool.and_eq_true, decide_eq_true_iff] at sorted
  exact sorted

theorem undisturbedGroup_pairwise (s : State) : s.undisturbedGroup.Pairwise fun c d =>
    s.admittedAt d < s.admittedAt c ∨ (s.admittedAt d = s.admittedAt c ∧ d < c) := by
  have sorted := sortSlots_pairwise
    (before := fun c d => s.admittedAt d < s.admittedAt c || s.admittedAt d = s.admittedAt c && d < c)
    (fun a b c => by
      simp only [Bool.or_eq_true, Bool.and_eq_true, decide_eq_true_iff, Fin.lt_def]
      omega)
    (fun a b other => by
      have := Fin.val_ne_of_ne other
      simp only [Bool.or_eq_true, Bool.and_eq_true, decide_eq_true_iff, Fin.lt_def]
      omega)
    (slots_nodup fun c => s.shedable c && !s.ripening c && s.undisturbed c)
  simp only [Bool.or_eq_true, Bool.and_eq_true, decide_eq_true_iff] at sorted
  exact sorted

theorem shedable_iff (s : State) (c : Slot) :
    s.shedable c = true ↔ c ∉ s.au.shed ∧ ∃ w, s.ctx c = some w ∧ w.state = .active := by
  unfold State.shedable
  rw [Bool.and_eq_true, ctxIs_iff, Bool.not_eq_true', decide_eq_false_iff_not, and_comm]

theorem ripening_iff {w : WashContext} (ctx : s.ctx c = some w) (active : w.state = .active) :
    s.ripening c = true ↔ Ripens w := by
  unfold State.ripening Ripens
  simp only [ctx, Bool.and_eq_true, decide_eq_true_iff, kindAt_stepIndex, active, true_and]

theorem undisturbed_iff {w : WashContext} (ctx : s.ctx c = some w) : s.undisturbed c = true ↔ w.progress = .none := by
  unfold State.undisturbed
  simp only [ctx, decide_eq_true_iff]

theorem mem_ripeningGroup (s : State) (c : Slot) : c ∈ s.ripeningGroup ↔
    c ∉ s.au.shed ∧ ∃ w, s.ctx c = some w ∧ w.state = .active ∧ Ripens w := by
  unfold State.ripeningGroup
  rw [(sortSlots_perm _ _).mem_iff, List.mem_filter, Bool.and_eq_true, shedable_iff]
  constructor
  · rintro ⟨-, ⟨out, w, ctx, active⟩, ripe⟩
    exact ⟨out, w, ctx, active, (ripening_iff ctx active).1 ripe⟩
  · rintro ⟨out, w, ctx, active, ripe⟩
    exact ⟨List.mem_finRange c, ⟨out, w, ctx, active⟩, (ripening_iff ctx active).2 ripe⟩

theorem mem_undisturbedGroup (s : State) (c : Slot) : c ∈ s.undisturbedGroup ↔
    c ∉ s.au.shed ∧ ∃ w, s.ctx c = some w ∧ w.state = .active ∧ ¬ Ripens w ∧ w.progress = .none := by
  unfold State.undisturbedGroup
  rw [(sortSlots_perm _ _).mem_iff, List.mem_filter, Bool.and_eq_true, Bool.and_eq_true, shedable_iff, Bool.not_eq_true',
    ← Bool.not_eq_true]
  constructor
  · rintro ⟨-, ⟨⟨out, w, ctx, active⟩, ripe⟩, mark⟩
    exact ⟨out, w, ctx, active, mt (ripening_iff ctx active).2 ripe, (undisturbed_iff ctx).1 mark⟩
  · rintro ⟨out, w, ctx, active, ripe, mark⟩
    exact ⟨List.mem_finRange c, ⟨⟨out, w, ctx, active⟩, mt (ripening_iff ctx active).1 ripe⟩, (undisturbed_iff ctx).2 mark⟩

theorem mem_shedCandidates (s : State) (x : Slot × ExitKind) : x ∈ s.shedCandidates ↔ Sheddable s x := by
  obtain ⟨c, k⟩ := x
  unfold State.shedCandidates Sheddable
  simp only [List.mem_append, List.mem_map, Prod.mk.injEq, mem_ripeningGroup, mem_undisturbedGroup]
  constructor
  · rintro (⟨d, ⟨out, w, ctx, active, ripe⟩, rfl, rfl⟩ | ⟨d, ⟨out, w, ctx, active, ripe, mark⟩, rfl, rfl⟩)
    · exact ⟨out, w, ctx, active, .inl ⟨rfl, ripe⟩⟩
    · exact ⟨out, w, ctx, active, .inr ⟨rfl, ripe, mark⟩⟩
  · rintro ⟨out, w, ctx, active, ⟨rfl, ripe⟩ | ⟨rfl, ripe, mark⟩⟩
    · exact .inl ⟨c, ⟨out, w, ctx, active, ripe⟩, rfl, rfl⟩
    · exact .inr ⟨c, ⟨out, w, ctx, active, ripe, mark⟩, rfl, rfl⟩

theorem phaseElapsed_of_ctx {w : WashContext} (ctx : s.ctx c = some w) : s.phaseElapsed c = (s.mc.seconds - w.phaseStart).toNat := by
  unfold State.phaseElapsed
  rw [ctx]
  rfl

theorem admittedAt_of_ctx {w : WashContext} (ctx : s.ctx c = some w) : s.admittedAt c = w.admissionTime.toNat := by
  unfold State.admittedAt
  rw [ctx]

theorem shedCandidates_pairwise (s : State) : s.shedCandidates.Pairwise (ShedsBefore s) := by
  unfold State.shedCandidates
  refine List.pairwise_append.2 ⟨List.pairwise_map.2 ?_, List.pairwise_map.2 ?_, fun x ripe y mild => ?_⟩
  · refine (ripeningGroup_pairwise s).imp fun {c d} longer v w ctx_v ctx_w => ?_
    rw [phaseElapsed_of_ctx ctx_v, phaseElapsed_of_ctx ctx_w] at longer
    exact .inr (.inl ⟨rfl, rfl, longer.imp id fun ⟨same, lower⟩ => ⟨BitVec.eq_of_toNat_eq same, lower⟩⟩)
  · refine (undisturbedGroup_pairwise s).imp fun {c d} later v w ctx_v ctx_w => ?_
    rw [admittedAt_of_ctx ctx_v, admittedAt_of_ctx ctx_w] at later
    exact .inr (.inr ⟨rfl, rfl, later.imp id fun ⟨same, higher⟩ => ⟨BitVec.eq_of_toNat_eq same, higher⟩⟩)
  · obtain ⟨_, -, rfl⟩ := List.mem_map.1 ripe
    obtain ⟨_, -, rfl⟩ := List.mem_map.1 mild
    exact fun _ _ _ _ => .inl ⟨rfl, rfl⟩

theorem shedding_breached (breach : s.au.breach = true) : s.shedding =
    (s.shedCandidates.take (s.au.required - inServiceCount s - s.au.shed.length)).foldl shedExit s := by
  rw [← shedOne_eq_shedExit]
  exact if_pos breach

/-! ### The threshold watch (R175) -/

theorem crossed_iff (x : Nat) (freely : Bool) (w : VolumeWatch) (value : Nat) :
    crossed (some x) freely w value = true ↔ Crossed x w value := by
  unfold crossed Crossed
  cases w.previous with
  | none => simp
  | some p =>
    simp only [Bool.and_eq_true, bne_iff_ne, ne_eq, decide_eq_decide, Option.some.injEq, exists_eq_left']
    refine and_congr_right fun _ => ?_
    omega

theorem changed_of_crossed {threshold : Option Nat} {freely : Bool} {w : VolumeWatch} {value : Nat}
    (h : crossed threshold freely w value = true) : Changed w value := by
  unfold crossed at h
  cases previous : w.previous with
  | none =>
    rw [previous] at h
    cases h
  | some p =>
    rw [previous] at h
    simp only [Bool.and_eq_true] at h
    obtain ⟨answered, apart⟩ := h
    refine ⟨answered, p, previous, ?_⟩
    rintro rfl
    cases threshold <;> simp at apart

theorem drawIf_eq (s : State) (b : Bool) : s.drawIf b = { s with free := if b then s.free + 1 else s.free } := by
  cases b <;> rfl

theorem watchVolumes_eq (s : State) : s.watchVolumes =
    let tank := crossed s.plant.tankThreshold (Config.freeConditionHolds s.free 5) s.nu.tankWatch (tankNow s).toNat
    let basin := crossed s.plant.basinThreshold (Config.freeConditionHolds s.free 6) s.nu.basinWatch (basinNow s).toNat
    let t := { s with free := if s.plant.tankThreshold.isNone || s.plant.basinThreshold.isNone then s.free + 1 else s.free }
    let t := if tank then t.raise .volume 0 else t
    if basin then t.raise .volume 0 else t := by
  unfold State.watchVolumes
  rw [drawIf_eq, tankNow_eq_tankAvailable, basinNow_eq_basinFree, Int.toNat_natCast, Int.toNat_natCast]
  rfl

/-! ### The answer of node 23 (R154) -/

theorem wasteAnswer_eq (s : State) (a : Answer) : s.wasteAnswer a.status (wasteInputOf a.payload) = wasteTaken s a := by
  unfold State.wasteAnswer wasteTaken
  rw [hearNode_eq]
  rfl

theorem wasteTaken_frame (s : State) (a : Answer) : ∃ nu, wasteTaken s a = { s with
    gbm := { s.gbm with
      links := s.gbm.links.set NodeId.waste.index.val (heardFrom s (s.link .waste) a)
      wasteInput := some ⟨u16 a.payload 0, (a.payload.getD 2 0).getLsbD 0⟩ }
    nu := nu } := by
  obtain ⟨nu, heard⟩ := answerHeard_frame s .waste a
  unfold wasteTaken
  rw [heard]
  exact ⟨_, rfl⟩

/-! ### What the acts at a scan's end leave -/

/-- An act that leaves the bus and the last check result. -/
structure BusKept (s t : State) : Prop where
  readings : readings t = readings s
  links    : t.gbm.links = s.gbm.links
  settings : t.gbm.settings = s.gbm.settings
  phase    : t.gbm.phase = s.gbm.phase
  check    : t.au.lastCheck = s.au.lastCheck

namespace BusKept

theorem refl (s : State) : BusKept s s := ⟨rfl, rfl, rfl, rfl, rfl⟩

theorem trans (h : BusKept s t) (k : BusKept t u) : BusKept s u :=
  ⟨k.readings.trans h.readings, k.links.trans h.links, k.settings.trans h.settings, k.phase.trans h.phase, k.check.trans h.check⟩

theorem of_step (h : PlantStep s t) (kept : Machine.readings t = Machine.readings s) (check : t.au.lastCheck = s.au.lastCheck) :
    BusKept s t := ⟨kept, h.links, h.settings, h.phase, check⟩

theorem foldl {α : Type} {g : State → α → State} (h : ∀ s x, BusKept s (g s x)) (l : List α) (s : State) :
    BusKept s (l.foldl g s) := by
  induction l generalizing s with
  | nil => exact refl s
  | cons x xs ih => exact (h s x).trans (ih (g s x))

end BusKept

theorem raise_check (s : State) (k : NoticeKind) (n : Nat) : (s.raise k n).au.lastCheck = s.au.lastCheck := by
  rw [State.raise_eq]

theorem changeState_check (s : State) (f : FilterId) (st : FilterState) :
    (s.changeState f st).au.lastCheck = s.au.lastCheck := by
  rw [State.changeState_eq]

theorem surveyOfOne_check (s : State) (f : FilterId) (word : BitVec 16) (localActive : Bool) :
    (s.surveyOfOne f word localActive).au.lastCheck = s.au.lastCheck := by
  unfold State.surveyOfOne
  dsimp only
  split
  · exact changeState_check ..
  · split
    · exact changeState_check ..
    · exact changeState_check ..

theorem watchVolumes_kept (s : State) : BusKept s s.watchVolumes := by
  refine .of_step (PlantStep.watchVolumes s) (readings_watchVolumes s) ?_
  rw [watchVolumes_eq]
  dsimp only
  split <;> split <;> simp only [raise_check]

theorem surveyFilter_step (s : State) (f : FilterId) : PlantStep s (s.surveyFilter f) := by
  unfold State.surveyFilter
  refine PlantStep.ite ?_ (PlantStep.refl s)
  split
  · exact PlantStep.surveyOfOne ..
  · exact PlantStep.refl s

theorem surveyFilter_kept (s : State) (f : FilterId) : BusKept s (s.surveyFilter f) := by
  unfold State.surveyFilter
  split
  · split
    · exact .of_step (PlantStep.surveyOfOne ..) (readings_surveyOfOne ..) (surveyOfOne_check ..)
    · exact .refl s
  · exact .refl s

theorem askImages_kept (s : State) : BusKept s s.askImages := by
  rw [askImages_eq]
  exact ⟨rfl, rfl, rfl, rfl, rfl⟩

theorem askImages_mc (s : State) : s.askImages.mc = s.mc := by
  rw [askImages_eq]
  rfl

theorem evalFloorNow_kept (s : State) : BusKept s s.evalFloorNow := by
  refine .of_step (PlantStep.evalFloorNow s) (readings_evalFloorNow s) ?_
  rw [State.evalFloorNow_eq]

theorem setMode_kept (s : State) (m : PartMode) : BusKept s (s.setMode m) := ⟨rfl, rfl, rfl, rfl, rfl⟩

theorem endSurvey_kept (s : State) : BusKept s s.endSurvey :=
  (((BusKept.foldl surveyFilter_kept ..).trans (askImages_kept _)).trans (evalFloorNow_kept _)).trans (setMode_kept ..)

theorem endSurvey_mc (s : State) : s.endSurvey.mc = { s.mc with mode := .hold } :=
  congrArg (fun m : ModeControl => { m with mode := .hold })
    (((PlantStep.evalFloorNow _).mc.trans (askImages_mc _)).trans (PlantStep.foldl surveyFilter_step ..).mc)

theorem countSurvey_kept (s : State) : BusKept s s.countSurvey := by
  have counted : BusKept s { s with mc := { s.mc with surveyProgress := s.mc.surveyProgress + 1 } } := ⟨rfl, rfl, rfl, rfl, rfl⟩
  unfold State.countSurvey
  dsimp only
  split
  · split
    · exact counted.trans (endSurvey_kept _)
    · exact counted
  · exact .refl s

theorem countSurvey_mc (s : State) : s.countSurvey.mc =
    if s.mc.mode = .survey then { s.mc with
      surveyProgress := s.mc.surveyProgress + 1
      mode := if 2 ≤ s.mc.surveyProgress then .hold else .survey } else s.mc := by
  unfold State.countSurvey
  dsimp only
  by_cases survey : s.mc.mode = .survey
  · rw [if_pos survey, if_pos survey]
    by_cases last : 3 ≤ s.mc.surveyProgress + 1
    · rw [if_pos last, if_pos (Nat.le_of_succ_le_succ last)]
      exact endSurvey_mc _
    · rw [if_neg last, if_neg fun h => last (Nat.succ_le_succ h), ← survey]
  · rw [if_neg survey, if_neg survey]

theorem admissionUnit_survey (mode : s.mc.mode = .survey) : s.admissionUnit = s.setCheck .notRun := by
  simp only [State.admissionUnit, mode]

theorem admissionUnit_setup (mode : s.mc.mode = .setup) : s.admissionUnit = s.isolationPass.setCheck .notRun := by
  simp only [State.admissionUnit, mode]

theorem admissionUnit_hold (mode : s.mc.mode = .hold) : s.admissionUnit = s.isolationPass.shedding.setCheck .notRun := by
  simp only [State.admissionUnit, mode]

theorem admissionUnit_auto (mode : s.mc.mode = .auto) : s.admissionUnit = s.isolationPass.shedding.admissionCheck := by
  simp only [State.admissionUnit, mode]

theorem admissionUnit_check (mode : s.mc.mode ≠ .auto) : s.admissionUnit.au.lastCheck = .notRun := by
  cases is : s.mc.mode with
  | survey => rw [admissionUnit_survey is]; rfl
  | setup => rw [admissionUnit_setup is]; rfl
  | hold => rw [admissionUnit_hold is]; rfl
  | auto => exact absurd is mode

/-- The acts of the AU, the NU and the MC at a scan's end. -/
def scanActs (s : State) : State := surveyCounted s.admissionUnit.watchVolumes

theorem scanActs_mc (s : State) : (scanActs s).mc =
    if s.mc.mode = .survey then { s.mc with
      surveyProgress := s.mc.surveyProgress + 1
      mode := if 2 ≤ s.mc.surveyProgress then .hold else .survey } else s.mc := by
  unfold scanActs
  rw [← countSurvey_eq, countSurvey_mc, (PlantStep.watchVolumes _).mc, (PlantStep.admissionUnit s).mc]

theorem scanActs_kept (s : State) : BusKept s.admissionUnit (scanActs s) := by
  unfold scanActs
  rw [← countSurvey_eq]
  exact (watchVolumes_kept _).trans (countSurvey_kept _)

theorem scanActs_readings (s : State) : readings (scanActs s) = readings s :=
  (scanActs_kept s).readings.trans (readings_admissionUnit s)

theorem scanActs_links (s : State) : (scanActs s).gbm.links = s.gbm.links :=
  (scanActs_kept s).links.trans (PlantStep.admissionUnit s).links

theorem scanActs_settings (s : State) : (scanActs s).gbm.settings = s.gbm.settings :=
  (scanActs_kept s).settings.trans (PlantStep.admissionUnit s).settings

theorem scanActs_phase (s : State) : (scanActs s).gbm.phase = s.gbm.phase :=
  (scanActs_kept s).phase.trans (PlantStep.admissionUnit s).phase

theorem scanActs_check (mode : s.mc.mode ≠ .auto) : (scanActs s).au.lastCheck = .notRun :=
  (scanActs_kept s).check.trans (admissionUnit_check mode)

theorem scanEnded_eq (s : State) : scanEnded s =
    if s.gbm.periodExpired then scanBegun (scanActs (scanCounted s)) else scanActs (scanCounted s) := rfl

/-- What the start of a scan leaves stands after a scan's end as the acts left it. -/
theorem scanEnded_part {β : Type} {part : State → β} (kept : ∀ u, part (scanBegun u) = part u) (s : State) :
    part (scanEnded s) = part (scanActs (scanCounted s)) := by
  rw [scanEnded_eq]
  split
  · exact kept _
  · rfl

theorem scanEnded_phase (s : State) :
    (scanEnded s).gbm.phase = if s.gbm.periodExpired then .due (scanStart s) else .idle := by
  have start : scanStart (scanActs (scanCounted s)) = scanStart s :=
    congrArg (fun x : BusSettings => if x.filterCount = 0 then NodeId.washWater else .filter 0) (scanActs_settings _)
  have idle : (scanActs (scanCounted s)).gbm.phase = .idle := scanActs_phase _
  rw [scanEnded_eq]
  split
  · exact congrArg ScanPhase.due start
  · exact idle

theorem cursorAfter_next {f g : FilterId} (cursor : s.gbm.cursor = some f) (next : g.val = f.val + 1)
    (inside : g.val < s.gbm.settings.filterCount) : cursorAfter s = some g := by
  have below : f.val + 1 < 20 := next ▸ g.isLt
  unfold cursorAfter
  rw [cursor, Option.map_some, dif_pos below, if_pos (next ▸ inside)]
  exact congrArg some (Fin.ext next.symm)

theorem cursorAfter_wraps {f : FilterId} (cursor : s.gbm.cursor = some f)
    (last : ¬ (f.val + 1 < 20 ∧ f.val + 1 < s.gbm.settings.filterCount)) : cursorAfter s = some 0 := by
  unfold cursorAfter
  rw [cursor, Option.map_some]
  split
  · rename_i below
    rw [if_neg fun inside => last ⟨below, inside⟩]
  · rfl

theorem cursorAfter_none (cursor : s.gbm.cursor = none) : cursorAfter s = none := by
  unfold cursorAfter
  rw [cursor, Option.map_none]

/-- The items of the bus after a scan's end. -/
theorem scanEnded_bus (s : State) :
    (scanEnded s).gbm.links = s.gbm.links ∧ (scanEnded s).gbm.wasteInput = s.gbm.wasteInput ∧
      (scanEnded s).gbm.scanCount = s.gbm.scanCount + 1 ∧
      (scanEnded s).gbm.scansWithMiss = (if s.gbm.scanMissed then min (s.gbm.scansWithMiss + 1) 65535 else s.gbm.scansWithMiss) ∧
      (scanEnded s).gbm.overruns = (if s.gbm.periodExpired then min (s.gbm.overruns + 1) 65535 else s.gbm.overruns) ∧
      (scanEnded s).gbm.cursor = cursorAfter s := by
  have same := scanActs_readings (scanCounted s)
  obtain ⟨count, missed, overruns, cursor⟩ := counts_of_readings same
  exact ⟨(scanEnded_part (part := fun u => u.gbm.links) (fun _ => rfl) s).trans (scanActs_links _),
    (scanEnded_part (part := fun u => u.gbm.wasteInput) (fun _ => rfl) s).trans (waste_of_readings (s := scanCounted s) same),
    (scanEnded_part (part := fun u => u.gbm.scanCount) (fun _ => rfl) s).trans count,
    (scanEnded_part (part := fun u => u.gbm.scansWithMiss) (fun _ => rfl) s).trans missed,
    (scanEnded_part (part := fun u => u.gbm.overruns) (fun _ => rfl) s).trans overruns,
    (scanEnded_part (part := fun u => u.gbm.cursor) (fun _ => rfl) s).trans cursor⟩

theorem scanEnded_mc (s : State) : (scanEnded s).mc =
    if s.mc.mode = .survey then { s.mc with
      surveyProgress := s.mc.surveyProgress + 1
      mode := if 2 ≤ s.mc.surveyProgress then .hold else .survey } else s.mc :=
  (scanEnded_part (part := fun u => u.mc) (fun _ => rfl) s).trans (scanActs_mc (scanCounted s))

theorem scanEnded_check (mode : s.mc.mode ≠ .auto) : (scanEnded s).au.lastCheck = .notRun :=
  (scanEnded_part (part := fun u => u.au.lastCheck) (fun _ => rfl) s).trans (scanActs_check (s := scanCounted s) mode)

/-! ### The statement -/

/-- The end of a scan, by the items of the state that the answer of node 23 finds. -/
theorem wasteAnswer_spec (s : State) (a : Answer) :
    let t := scanEnded (wasteTaken s a)
    (∀ m, t.link m = if m = .waste then heardFrom s (s.link m) a else s.link m) ∧
      t.gbm.wasteInput = some ⟨u16 a.payload 0, (a.payload.getD 2 0).getLsbD 0⟩ ∧
      t.gbm.scanCount = s.gbm.scanCount + 1 ∧
      t.gbm.scansWithMiss = (if s.gbm.scanMissed then min (s.gbm.scansWithMiss + 1) 65535 else s.gbm.scansWithMiss) ∧
      t.gbm.overruns = (if s.gbm.periodExpired then min (s.gbm.overruns + 1) 65535 else s.gbm.overruns) ∧
      t.gbm.phase = (if s.gbm.periodExpired then .due (scanStart s) else .idle) ∧
      t.gbm.cursor = cursorAfter s ∧
      (s.mc.mode ≠ .auto → t.au.lastCheck = .notRun) ∧
      t.mc = (if s.mc.mode = .survey then { s.mc with
        surveyProgress := s.mc.surveyProgress + 1
        mode := if 2 ≤ s.mc.surveyProgress then .hold else .survey } else s.mc) := by
  obtain ⟨nu, frame⟩ := wasteTaken_frame s a
  obtain ⟨links, waste, count, missed, overruns, cursor⟩ := scanEnded_bus (wasteTaken s a)
  have phase := scanEnded_phase (wasteTaken s a)
  have mc := scanEnded_mc (wasteTaken s a)
  have check := scanEnded_check (s := wasteTaken s a)
  dsimp only
  generalize scanEnded (wasteTaken s a) = t at *
  rw [frame] at *
  refine ⟨fun m => ?_, waste, count, missed, overruns, phase, cursor, check, mc⟩
  rw [link_of_set links]
  by_cases own : m = .waste
  · rw [if_pos own, if_pos own, own]
  · rw [if_neg own, if_neg own]

/-- Settles O26. -/
theorem wasteAnswerCompletesTheScan : Obligations.WasteAnswerCompletesTheScan := by
  refine ⟨fun s a running awaits valid => ?_, fun s => ?_⟩
  · have taken := exec_validAnswer running awaits valid (.supplyNodeAnswer a) (by simp)
    rw [show s.handAnswer .waste .readIo a = wasteTaken s a from wasteAnswer_eq s a, endTransaction_waste] at taken
    obtain ⟨link, waste, count, missed, overruns, phase, cursor, check, mc⟩ := wasteAnswer_spec s a
    exact ⟨_, taken, rfl, link, waste, count, missed, overruns, phase, fun h => cursor.trans (cursorAfter_none h),
      fun _ _ h next inside => cursor.trans (cursorAfter_next h next inside), fun _ h last => cursor.trans (cursorAfter_wraps h last),
      check, fun h => mc.trans (if_neg h), fun h => mc.trans (if_pos h)⟩
  · refine ⟨admissionUnit_survey, admissionUnit_setup, admissionUnit_hold, admissionUnit_auto, rfl, fun e =>
      ⟨fun skipped => ?_, fun x considered settings => ⟨fun on => ?_, fun off => ?_⟩,
      fun considered settings => ?_⟩, fun calm => if_neg (by rw [calm]; exact Bool.false_ne_true),
      fun breach => ⟨s.shedCandidates, mem_shedCandidates s, shedCandidates_pairwise s, shedding_breached breach⟩, ?_⟩
    · exact passEntry_skips (mt (passConsiders_iff s e).1 skipped)
    · exact (passEntry_set ((passConsiders_iff s e).2 considered) settings).trans (if_pos (on.imp id (roomToIsolate_iff s).2))
    · exact (passEntry_set ((passConsiders_iff s e).2 considered) settings).trans
        (if_neg (mt (And.imp id (roomToIsolate_iff s).1) off))
    · rw [passEntry_unset ((passConsiders_iff s e).2 considered) settings]
      split
      · rename_i on
        exact .inr ⟨(roomToIsolate_iff s).1 on.2, rfl⟩
      · exact .inl rfl
    · refine ⟨_, _, _, fun x threshold => ?_, fun x threshold => ?_, changed_of_crossed, changed_of_crossed,
        fun tank basin => ?_, watchVolumes_eq s⟩
      · rw [threshold]
        exact crossed_iff ..
      · rw [threshold]
        exact crossed_iff ..
      · exact if_neg (by simp [Option.isNone_iff_eq_none, tank, basin])

end Sys2Proof.Claim
